-- ==== Sys2Proof/Word.lean ====
section
/-! DEFINITION. The widths the manual treats as bits: bytes of frames and messages, 16-bit totals on the
wire, the 4-bit station number and the 32-bit ticket key. -/

namespace Sys2Proof

/-- One byte of a frame (R4) or of a host port message (R183). -/
abbrev Byte := BitVec 8

/-- A 16-bit total of a frame (R8, R9), an event argument (R192) or a two-byte reply field (R188). -/
abbrev Word16 := BitVec 16

/-- A station number, 0 to 15 (R25). -/
abbrev Station := BitVec 4

/-- A ticket key, 32 bits that the part does not interpret (00_scope, Terms). -/
abbrev TicketKey := BitVec 32

end Sys2Proof
end

