-- ==== Sys2Proof/Syntax.lean ====
section
/-! DEFINITION. The commands of the part: one constructor per row of spec/opcode_table.json, in the table's order,
with the operands the row's event carries. A command is one whole, indivisible step (95_what_each_step_holds). -/

namespace Sys2Proof

/-- The two tread plates: A on the landing side, B on the gangway side (chapter 8). -/
inductive PlateId where
  | a
  | b
  deriving DecidableEq, Repr

/-- The two ends of the flap's travel, and the two end switches (R160). -/
inductive EndId where
  | openEnd
  | closedEnd
  deriving DecidableEq, Repr

/-- One command of the part: a request taken, a frame heard, a timer's expiry, an edge on an input. -/
inductive Instr where
  /-- FULL_RESET (R196): power-on or the RESET pin. `straps` is what the STN pins read at that moment (R25). -/
  | fullReset (straps : Station)
  /-- HOST_SESSION_END (R185): HSEL is deasserted. `straps` is what the STN pins read at that moment; it is used only
  when the session's end makes the full reset of R191. -/
  | hostSessionEnd (straps : Station)
  /-- REPLY_READY (R184). -/
  | replyReady
  /-- IDENTIFY (R187). -/
  | identify
  /-- CONFIGURE (R189), with the payload it carries. -/
  | configure (payload : List Byte)
  /-- SELFTEST (R24). -/
  | selftest
  /-- SELFTEST_END (R24): `received` is the level of each loopback bit time, from the first bit of the opening flag
  (true is recessive, 1). -/
  | selftestEnd (received : List Bool)
  /-- START (R190). -/
  | start
  /-- RESET (R191), the request. -/
  | reset
  /-- LOOKUP (R116). -/
  | lookup (key : TicketKey)
  /-- QUERY (R188). -/
  | query (page : Byte)
  /-- READ_EVENT (R194). -/
  | readEvent
  /-- PEEK_EVENT (R194). -/
  | peekEvent
  /-- SET_MASK (R195). -/
  | setMask (mask : Byte)
  /-- LANE_RESTART (R141). -/
  | laneRestart
  /-- CLEAR_FAULT (R140). -/
  | clearFault
  /-- EGRESS_END (R180), the request. -/
  | egressEnd
  /-- PRESENT (R88): ticket key, class byte, party byte. -/
  | present (key : TicketKey) (cls party : Byte)
  /-- CANCEL (R98): presentation number. -/
  | cancel (number : Byte)
  /-- HOLD (R134). -/
  | hold
  /-- RELEASE (R136). -/
  | release
  /-- OPEN_WINDOW (R44, R45). -/
  | openWindow
  /-- CLOSE_WINDOW (R47). -/
  | closeWindow
  /-- SET_ONBOARD (R43). -/
  | setOnboard (count : Word16)
  /-- SET_LANE_MODE (R143). -/
  | setLaneMode (mode : Byte)
  /-- LINE_IDLE (R11). -/
  | lineIdle
  /-- TRANSMIT_START (R14): `slots` is the idle timer's reading, in whole slots, at this moment (R13). -/
  | transmitStart (slots : Nat)
  /-- LOST_ARBITRATION (R15). -/
  | lostArbitration
  /-- READBACK_FAULT (R16). -/
  | readbackFault
  /-- OWN_FRAME_COMPLETE (R18). -/
  | ownFrameComplete
  /-- BAD_FRAME (R5): `content` is the assembled content, inserted zeros removed, in the order received. -/
  | badFrame (content : List Bool)
  /-- FRAME_ABORT_HEARD (R3). -/
  | frameAbortHeard
  /-- UNKNOWN_KIND_FRAME (R6): a good frame of unknown kind, or one that fails its format check. -/
  | unknownKindFrame (sender kind : BitVec 4) (window : Byte) (body : List Byte)
  /-- STATUS_FRAME (R40): a good frame of kind STATUS. -/
  | statusFrame (sender : Station) (window : Byte) (body : List Byte)
  /-- OFFER_FRAME (R57). -/
  | offerFrame (sender : Station) (window : Byte) (body : List Byte)
  /-- CLOSE_FRAME (R58). -/
  | closeFrame (sender : Station) (window : Byte) (body : List Byte)
  /-- CLAIM_FRAME (R74). -/
  | claimFrame (sender : Station) (window : Byte) (body : List Byte)
  /-- GRANT_FRAME (R70). -/
  | grantFrame (sender : Station) (window : Byte) (body : List Byte)
  /-- TICKET_FRAME (R97). -/
  | ticketFrame (sender : Station) (window : Byte) (body : List Byte)
  /-- TALLY_FRAME (R51). -/
  | tallyFrame (sender : Station) (window : Byte) (body : List Byte)
  /-- EGRESS_FRAME (R177). -/
  | egressFrame (sender : Station) (window : Byte) (body : List Byte)
  /-- EGRESS_END_FRAME (R181). -/
  | egressEndFrame (sender : Station) (window : Byte) (body : List Byte)
  /-- LISTEN_TIMER_EXPIRY (R30). -/
  | listenTimerExpiry
  /-- ISOLATION_TIMER_EXPIRY (R31). -/
  | isolationTimerExpiry
  /-- ROLL_TIMER_EXPIRY (R36). -/
  | rollTimerExpiry
  /-- SILENCE_TIMER_EXPIRY (R35) of one peer. -/
  | silenceTimerExpiry (peer : Station)
  /-- TALLY_TIMER_EXPIRY (R52). -/
  | tallyTimerExpiry
  /-- ORPHAN_TIMER_EXPIRY (R60). -/
  | orphanTimerExpiry
  /-- KEPT_DEMAND_START (R68). -/
  | keptDemandStart
  /-- CLAIM_REPEAT_TIMER_EXPIRY (R69). -/
  | claimRepeatTimerExpiry
  /-- CLAIM_WAIT_TIMER_EXPIRY (R71). -/
  | claimWaitTimerExpiry
  /-- LIST_SECOND_TIMER_EXPIRY (R113). -/
  | listSecondTimerExpiry
  /-- PASSAGE_WAIT_EXPIRY (R123). -/
  | passageWaitExpiry
  /-- CLEAR_TIMER_EXPIRY (R124). -/
  | clearTimerExpiry
  /-- TRACKER_ARM (R126). -/
  | trackerArm
  /-- LOITER_TIMER_EXPIRY (R133) of one plate. -/
  | loiterTimerExpiry (plate : PlateId)
  /-- ZERO_PHASE_END (R147): the front end's offset, in reading units. -/
  | zeroPhaseEnd (offset : Int)
  /-- INTEGRATE_PHASE_END (R148). -/
  | integratePhaseEnd
  /-- RUNDOWN_CROSSING (R149): the crossing comes at tick `r` of RUNDOWN. -/
  | rundownCrossing (r : Nat)
  /-- RUNDOWN_OVERRANGE (R149). -/
  | rundownOverrange
  /-- END_SWITCH_ACTIVE (R165): a filtered end switch becomes active. -/
  | endSwitchActive (which : EndId)
  /-- END_SWITCH_INACTIVE (R173): a filtered end switch becomes inactive. -/
  | endSwitchInactive (which : EndId)
  /-- STALL (R168): a deglitched stall. -/
  | stall
  /-- BRAKE_TIMER_EXPIRY (R159). -/
  | brakeTimerExpiry
  /-- TRAVEL_TIMER_EXPIRY (R169). -/
  | travelTimerExpiry
  /-- PAUSE_TIMER_EXPIRY (R170). -/
  | pauseTimerExpiry
  /-- PENDING_CLOSE_TAKEN (R164). -/
  | pendingCloseTaken
  /-- RE_DRIVE_START (R173). -/
  | reDriveStart
  /-- EGRESS_INPUT_ACTIVE (R177): the filtered EGRESS input becomes active. -/
  | egressInputActive
  /-- EGRESS_INPUT_INACTIVE (R179): the filtered EGRESS input becomes inactive. -/
  | egressInputInactive
  /-- HSEL_ASSERTED (R182). -/
  | hselAsserted
  /-- HOST_BYTE_COMPLETED (R183): the byte the host has shifted in. -/
  | hostByteCompleted (byte : Byte)
  /-- REQUEST_FAILS_MESSAGE_CHECK (R184): the bytes of the message as received, kind byte first. -/
  | requestFailsMessageCheck (message : List Byte)
  /-- LINE_BUSY (R11). -/
  | lineBusy
  /-- OPENING_FLAG_FOUND (R3). -/
  | openingFlagFound
  /-- MILLISECOND_COUNT_ADVANCE (R192). -/
  | millisecondCountAdvance
  deriving DecidableEq, Repr

end Sys2Proof
end

