-- ==== Sys2Proof/Config.lean ====
section
/-! DEFINITION. What the part fixes: the lengths of its timers, the sizes of its queues and lists, its identity,
and the one value the manual leaves open, for numbers that do not fit the field that carries them. -/

namespace Sys2Proof.Config

/-- FREE VALUE. The 16 bits that carry a number above 65535 in a 16-bit field or event argument. The manual gives the
field 16 bits and does not state the result for such a number (R55's third argument, R64's wanted). Log entry 4. -/
opaque wideWord : Nat → Word16

/-- Listen time, ms (R28). -/
def listenMs : Nat := 300
/-- Isolation time, ms (R29, R31). -/
def isolationMs : Nat := 450
/-- Silence time of a peer, ms (R34). -/
def silenceMs : Nat := 450
/-- Roll period, ms (R36). -/
def rollMs : Nat := 100
/-- Tally timer, ms (R41). -/
def tallyMs : Nat := 1500
/-- Orphan timer, ms (R56). -/
def orphanMs : Nat := 30000
/-- Claim wait timer, ms (R64). -/
def claimWaitMs : Nat := 250
/-- Claim repeat timer, ms (R64). -/
def claimRepeatMs : Nat := 60
/-- List second timer, ms (R107). -/
def listSecondMs : Nat := 1000
/-- Clear timer, ms (R120, R124). -/
def clearMs : Nat := 300
/-- Loiter timer of a plate, ms (R120, R133). -/
def loiterMs : Nat := 30000
/-- Brake time, ms (R159). -/
def brakeMs : Nat := 20
/-- Travel limit of one drive period, ms (R169). -/
def travelMs : Nat := 1500
/-- Pause before a retry, ms (R168). -/
def pauseMs : Nat := 500
/-- Shortest time between two re-drives, ms (R173). -/
def reDriveMs : Nat := 1000

/-- Records the event queue holds (R192). -/
def eventQueueSize : Nat := 32
/-- Entries the recent admission list holds (R107). -/
def recentListSize : Nat := 160
/-- Retries of one movement (R161, R168). -/
def retryLimit : Nat := 3
/-- The zero limit, reading units either side of zero (R147). -/
def zeroLimit : Int := 256
/-- Loopback bit times the self-test waits from the first bit of the opening flag (R24). -/
def selftestBits : Nat := 320
/-- Largest payload of a host port message, bytes (R183). -/
def maxPayload : Nat := 60
/-- Top of a 16-bit count that saturates (R42, R142). -/
def countTop : Nat := 65535

/-- Vendor code of IDENTIFY (R187). -/
def vendorCode : Nat := 1622
/-- Part code of IDENTIFY (R187). -/
def partCode : Nat := 320
/-- Revision of IDENTIFY (R187). -/
def revision : Nat := 1

end Sys2Proof.Config
end

