-- ==== Sys2Proof/Machine/State.lean ====
section
/-! DEFINITION. The state of the part as plain data: every register, queue, list, timer, mark and mode the manual names,
block by block; the two ways a step could stop; and the machine right after reset. -/

namespace Sys2Proof.Machine

/-! ## Timers -/

/-- A timer (00_scope, Conventions, Time): stopped, running with so many ms left, or suspended with so many ms left. -/
inductive Timer where
  | stopped
  | running (left : Nat)
  | suspended (left : Nat)
  deriving DecidableEq, Repr

/-! ## Host port, configuration record and event queue (chapter 11) -/

/-- Port states (R183). -/
inductive PortState where
  | idle
  | receive
  | work
  | reply
  deriving DecidableEq, Repr

/-- The host port's lines and buffers (R182 to R185). An empty `reply` means that no reply is built. -/
structure HostPort where
  state : PortState
  hsel : Bool
  request : List Byte
  reply : List Byte
  offered : Bool
  shifted : Nat
  resetPending : Bool
  hdo : Byte
  deriving DecidableEq, Repr

/-- Event kinds (R192). -/
inductive EventKind where
  | admitted
  | refused
  | passageCounted
  | tailgate
  | intrusion
  | wrongWay
  | alightCounted
  | passageExpired
  | loiter
  | holdEffective
  | laneFault
  | faultCleared
  | plateFault
  | obstructed
  | barrierStall
  | positionUnconfirmed
  | drift
  | windowOpened
  | windowClosing
  | tally
  | lateTally
  | overCapacity
  | countUnderflow
  | windowClosed
  | windowOrphaned
  | windowResumed
  | windowAbandoned
  | windowEnded
  | windowFull
  | accountLost
  | isolated
  | linkRestored
  | peerJoined
  | peerLost
  | frameDropped
  | duplicateAdmission
  | listEviction
  | egressBegan
  | egressEnded
  deriving DecidableEq, Repr

/-- One event record (R192). -/
structure EventRecord where
  kind : EventKind
  lost : Bool
  sequence : Byte
  time : Word16
  arg1 : Word16
  arg2 : Word16
  arg3 : Word16
  deriving DecidableEq, Repr

/-- The event queue with its mask, marks and counters (R192, R193, R195), oldest record first. -/
structure EventQueue where
  records : List EventRecord
  lostBefore : Bool
  sequence : Byte
  msCount : Word16
  mask : BitVec 7
  deriving DecidableEq, Repr

/-- Barrier fault modes (R168). -/
inductive FaultMode where
  | latch
  | retry
  | report
  | ignore
  deriving DecidableEq, Repr

/-- One record of the class table (R86): hold time in minutes and largest party. -/
structure ClassRecord where
  holdTime : Nat
  maxParty : Nat
  deriving DecidableEq, Repr

/-- The configuration record (R189). -/
structure ConfigRecord where
  resolution : Nat
  occupy : Nat
  multiple : Nat
  hysteresis : Nat
  creditBlock : Nat
  lowMark : Nat
  passageWait : Nat
  faultMode : FaultMode
  stallLevel : Nat
  deglitch : Nat
  capacity : Nat
  classes : Vector ClassRecord 8
  deriving DecidableEq, Repr

/-! ## Link controller (chapter 1) -/

/-- Frame kinds (R6). -/
inductive FrameKind where
  | status
  | offer
  | close
  | claim
  | grant
  | ticket
  | tally
  | egress
  | egressEnd
  | test
  deriving DecidableEq, Repr

/-- A frame but for its length byte and CRC, which follow from these fields (R4). -/
structure Frame where
  sender : Station
  kind : FrameKind
  window : Byte
  body : List Byte
  deriving DecidableEq, Repr

/-- The receiver's hunt state (R3). -/
inductive Hunt where
  | hunt
  | frame
  deriving DecidableEq, Repr

/-- The fixed contents of a TICKET entry (R19, R92). -/
structure TicketContents where
  window : Nat
  key : TicketKey
  cls : Nat
  party : Nat
  deriving DecidableEq, Repr

/-- An entry of the transmit queue (R19). `sending` false is WAITING, true is SENDING. -/
structure TxEntry where
  kind : FrameKind
  sending : Bool
  attempts : Nat
  requeue : Bool
  ticket : Option TicketContents
  deriving DecidableEq, Repr

/-- The link controller (chapter 1). `txFrame` is the frame that the SENDING head entry was built as (R14, R21);
`loopback` is set while a SELFTEST is in progress (R24). -/
structure Link where
  hunt : Hunt
  buffer : List Byte
  ones : Nat
  lineIdle : Bool
  idleTimer : Nat
  lastSender : Station
  queue : List TxEntry
  deferred : Option FrameKind
  txFrame : Option Frame
  loopback : Bool
  deriving DecidableEq, Repr

/-! ## Presence unit (chapter 2) -/

/-- Station states (chapter 2.2). -/
inductive StationState where
  | setup
  | listen
  | active
  | isolated
  deriving DecidableEq, Repr

/-- Presence of a peer (R33). -/
inductive PeerPresence where
  | unknown
  | present
  | absent
  deriving DecidableEq, Repr

/-- A STATUS record: window byte and body of the last STATUS heard (R33). -/
structure StatusRecord where
  window : Byte
  body : List Byte
  deriving DecidableEq, Repr

/-- An entry of the peer table (R33). -/
structure Peer where
  presence : PeerPresence
  silence : Timer
  record : Option StatusRecord
  egress : Bool
  deriving DecidableEq, Repr

/-- The presence unit (R25, R27, R33). -/
structure Presence where
  number : Station
  state : StationState
  listenTimer : Timer
  isolationTimer : Timer
  rollTimer : Timer
  peers : Vector Peer 16
  deriving DecidableEq, Repr

/-! ## Window unit and place account unit (chapters 3 and 4) -/

/-- Window states at the vessel station (R41). -/
inductive WindowState where
  | none
  | opened
  | closing
  deriving DecidableEq, Repr

/-- One row of the gate account table: the tally fields (R41) and the grant fields (R73) of one gate station. -/
structure GateRow where
  paid : Nat
  unpaid : Nat
  excess : Nat
  final : Bool
  granted : Nat
  returned : Nat
  due : Bool
  lost : Bool
  deriving DecidableEq, Repr

/-- One gate's row of the closed-window record (R41, R53). -/
structure ClosedRow where
  paid : Nat
  unpaid : Nat
  excess : Nat
  final : Bool
  deriving DecidableEq, Repr

/-- The closed-window record (R41). Index s - 1 is gate station s. -/
structure ClosedWindow where
  window : Nat
  rows : Vector ClosedRow 15
  deriving DecidableEq, Repr

/-- The vessel half of the window unit (R41) and of the place account unit (R73). Index s - 1 of `gates` is gate
station s; the table has no entry for station 0. -/
structure Vessel where
  state : WindowState
  number : Nat
  offer : Nat
  onboard : Nat
  tallyTimer : Timer
  record : Option ClosedWindow
  gates : Vector GateRow 15
  remainder : Nat
  lastServed : Nat
  fullRaised : Bool
  deriving DecidableEq, Repr

/-- View states at a gate station (R56). -/
inductive ViewState where
  | none
  | opened
  | orphaned
  | closed
  deriving DecidableEq, Repr

/-- The gate half of the window unit (R56). -/
structure WindowView where
  state : ViewState
  number : Nat
  lastTallied : Nat
  orphanTimer : Timer
  tallyPending : Bool
  deriving DecidableEq, Repr

/-- The claim of a gate station (R64): none, or outstanding of a kind. -/
inductive Claim where
  | none
  | background
  | demand
  deriving DecidableEq, Repr

/-- The gate place account (R64) and the kept demand of R68, which carries its party. -/
structure Account where
  granted : Nat
  returned : Nat
  charged : Nat
  reserved : Nat
  wanted : Nat
  claim : Claim
  waitTimer : Timer
  repeatTimer : Timer
  full : Bool
  announced : Bool
  kept : Option Nat
  deriving DecidableEq, Repr

/-! ## Admission unit and recent admission list (chapters 5 and 6) -/

/-- States of a presentation (R87). -/
inductive PresentationState where
  | awaitPlaces
  | awaitLink
  deriving DecidableEq, Repr

/-- Stop causes (R87, R99). -/
inductive StopCause where
  | windowClosed
  | laneRestart
  | laneUnavailable
  deriving DecidableEq, Repr

/-- The presentation record (R87). -/
structure Presentation where
  number : Nat
  key : TicketKey
  cls : Nat
  party : Nat
  window : Nat
  state : PresentationState
  stopCause : Option StopCause
  deriving DecidableEq, Repr

/-- The admission unit's state besides the class table (R87). -/
structure Admission where
  record : Option Presentation
  counter : Nat
  lastDecided : Option Nat
  deriving DecidableEq, Repr

/-- Origin of a list entry (R108). -/
inductive ListOrigin where
  | own
  | peer
  deriving DecidableEq, Repr

/-- An entry of the recent admission list (R108). -/
structure ListEntry where
  key : TicketKey
  cls : Nat
  party : Nat
  station : Station
  window : Nat
  hold : Nat
  origin : ListOrigin
  deriving DecidableEq, Repr

/-- The recent admission list (R107), oldest entry first. -/
structure RecentList where
  entries : List ListEntry
  secondTimer : Timer
  deriving DecidableEq, Repr

/-! ## Lane sequencer (chapter 7) -/

/-- Lane states (R120). -/
inductive LaneState where
  | idle
  | opening
  | opened
  | closing
  | held
  | fault
  | egress
  | flow
  deriving DecidableEq, Repr

/-- Fault causes (R137). -/
inductive FaultCause where
  | plateA
  | plateB
  | stall
  | travel
  | switch
  deriving DecidableEq, Repr

/-- Tracker states (R128). -/
inductive TrackerState where
  | none
  | entering
  | crossing
  | leaving
  deriving DecidableEq, Repr

/-- Passage directions (R128). -/
inductive Direction where
  | forward
  | reverse
  deriving DecidableEq, Repr

/-- The passage tracker (R120, R127). `exited` is the exit mark. -/
structure Tracker where
  state : TrackerState
  direction : Direction
  armed : Bool
  multiple : Bool
  exited : Bool
  deriving DecidableEq, Repr

/-- Vessel lane modes (R143). -/
inductive LaneMode where
  | flow
  | alight
  deriving DecidableEq, Repr

/-- The lane sequencer (R120). -/
structure Lane where
  state : LaneState
  holdPending : Bool
  settleMark : Bool
  recovery : Bool
  faultCause : Option FaultCause
  remaining : Nat
  tracker : Tracker
  paid : Nat
  unpaid : Nat
  excess : Nat
  egressPassages : Nat
  mode : LaneMode
  passageWait : Timer
  clearTimer : Timer
  loiterA : Timer
  loiterB : Timer
  deriving DecidableEq, Repr

/-! ## Tread plate converter (chapter 8) -/

/-- Conversion phases (R145). -/
inductive Phase where
  | stopped
  | waiting
  | zero
  | integrate
  | rundown
  deriving DecidableEq, Repr

/-- Last results (R145). -/
inductive ConversionResult where
  | none
  | good
  | overrange
  | zeroFault
  deriving DecidableEq, Repr

/-- Plate classes (R145). -/
inductive PlateClass where
  | empty
  | occupied
  | multiple
  deriving DecidableEq, Repr

/-- One plate's record (R145), with the offset stored at the end of ZERO (R147). `candidateRun` is the candidate run. -/
structure Plate where
  phase : Phase
  ticks : Nat
  reading : Nat
  result : ConversionResult
  cls : PlateClass
  candidate : Option PlateClass
  candidateRun : Nat
  bad : Nat
  fault : Bool
  settle : Nat
  offset : Int
  deriving DecidableEq, Repr

/-- The converter (R145): the plate in turn and the two plate records. -/
structure Converter where
  turn : Option PlateId
  plateA : Plate
  plateB : Plate
  deriving DecidableEq, Repr

/-! ## Barrier driver (chapter 9) -/

/-- Barrier states (R161). -/
inductive BarrierState where
  | unknown
  | closed
  | opening
  | opened
  | closing
  | paused
  | halted
  deriving DecidableEq, Repr

/-- Bridge outputs (R159). -/
inductive BarrierOutput where
  | off
  | driveOpen
  | driveClose
  | brake
  deriving DecidableEq, Repr

/-- Origin of a movement (R161). -/
inductive Origin where
  | command
  | reDrive
  deriving DecidableEq, Repr

/-- A movement (R161). `attempt` marks the one attempt that an egress open command makes from HALTED (R174); it is the
model's own mark, log entry 14. -/
structure Movement where
  direction : EndId
  origin : Origin
  attempt : Bool
  deriving DecidableEq, Repr

/-- The barrier driver (R161) and its filtered end switches (R160; true is active). -/
structure Barrier where
  state : BarrierState
  output : BarrierOutput
  movement : Option Movement
  retry : Nat
  obstructions : Nat
  latch : Bool
  unconfirmed : Bool
  pendingClose : Bool
  reDrive : Option EndId
  egressMark : Bool
  brakeTimer : Timer
  travelTimer : Timer
  pauseTimer : Timer
  reDriveTimer : Timer
  openSwitch : Bool
  closedSwitch : Bool
  deriving DecidableEq, Repr

/-! ## Egress unit (chapter 10) -/

/-- Egress states (R176). -/
inductive EgressState where
  | normal
  | egress
  deriving DecidableEq, Repr

/-- Egress origins (R176). -/
inductive EgressOrigin where
  | none
  | own
  | peer
  deriving DecidableEq, Repr

/-- The egress unit (R176); `input` is the filtered input, true when active. -/
structure Egress where
  state : EgressState
  origin : EgressOrigin
  input : Bool
  endMark : Bool
  deriving DecidableEq, Repr

/-! ## The part -/

/-- The whole state of the part, and the queue of commands waiting to be taken (first in, first out). -/
structure State where
  port : HostPort
  config : ConfigRecord
  locked : Bool
  events : EventQueue
  link : Link
  presence : Presence
  vessel : Vessel
  view : WindowView
  account : Account
  admission : Admission
  list : RecentList
  lane : Lane
  converter : Converter
  barrier : Barrier
  egress : Egress
  pending : List Instr
  deriving DecidableEq, Repr

/-- The machine never stops with a fault: a lane fault, a latched barrier or a faulted plate is a state the part goes on
from (R138, R154, R171). No constructor, so no step can answer one (safe). -/
inductive Fault where
  deriving DecidableEq, Repr

/-- Why a command has no meaning. `notModelled`: raised by no arm of `exec`, since every command has its meaning; it is
the host's form for a command not modelled yet (safe: the step stops). -/
inductive Refusal where
  | notModelled (mnemonic : String)
  deriving DecidableEq, Repr

/-! ## Reset values -/

/-- The default configuration record (R86, R189). -/
def ConfigRecord.default : ConfigRecord where
  resolution := 2
  occupy := 600
  multiple := 1700
  hysteresis := 120
  creditBlock := 4
  lowMark := 1
  passageWait := 8
  faultMode := .retry
  stallLevel := 1
  deglitch := 1
  capacity := 100
  classes := #v[⟨20, 1⟩, ⟨20, 4⟩, ⟨0, 1⟩, ⟨0, 1⟩, ⟨0, 1⟩, ⟨0, 1⟩, ⟨0, 1⟩, ⟨0, 1⟩]

/-- Port state after a full reset (R196); `hsel` is the HSEL input, which the reset does not drive. -/
def HostPort.afterReset (hsel : Bool) : HostPort :=
  { state := .idle, hsel := hsel, request := [], reply := [], offered := false, shifted := 0, resetPending := false,
    hdo := 0 }

/-- Event queue after a full reset (R196). -/
def EventQueue.afterReset : EventQueue :=
  { records := [], lostBefore := false, sequence := 0, msCount := 0, mask := 0 }

/-- Link controller after a full reset (R3, R11, R12, R19). -/
def Link.afterReset : Link :=
  { hunt := .hunt, buffer := [], ones := 0, lineIdle := false, idleTimer := 0, lastSender := 15, queue := [],
    deferred := none, txFrame := none, loopback := false }

/-- A peer entry after a full reset (R33). -/
def Peer.afterReset : Peer := { presence := .unknown, silence := .stopped, record := none, egress := false }

/-- Presence unit after a full reset that reads `straps` on the STN pins (R25, R27, R33). -/
def Presence.afterReset (straps : Station) : Presence :=
  { number := straps, state := .setup, listenTimer := .stopped, isolationTimer := .stopped, rollTimer := .stopped,
    peers := Vector.replicate 16 Peer.afterReset }

/-- A gate's row of the gate account table after a full reset, and at OPEN WINDOW (R41, R45, R73). -/
def GateRow.afterReset : GateRow :=
  { paid := 0, unpaid := 0, excess := 0, final := false, granted := 0, returned := 0, due := false, lost := false }

/-- The vessel half after a full reset (R41, R73). -/
def Vessel.afterReset : Vessel :=
  { state := .none, number := 0, offer := 0, onboard := 0, tallyTimer := .stopped, record := none,
    gates := Vector.replicate 15 GateRow.afterReset, remainder := 0, lastServed := 0, fullRaised := false }

/-- The window view after a full reset (R56). -/
def WindowView.afterReset : WindowView :=
  { state := .none, number := 0, lastTallied := 0, orphanTimer := .stopped, tallyPending := false }

/-- The gate place account after a full reset and at each clearing (R64, R84). -/
def Account.afterReset : Account :=
  { granted := 0, returned := 0, charged := 0, reserved := 0, wanted := 0, claim := .none, waitTimer := .stopped,
    repeatTimer := .stopped, full := false, announced := false, kept := none }

/-- The admission unit after a full reset (R87, R106). -/
def Admission.afterReset : Admission := { record := none, counter := 0, lastDecided := none }

/-- The recent admission list after a full reset: empty, its second timer running (R107, R117). -/
def RecentList.afterReset : RecentList := { entries := [], secondTimer := .running Config.listSecondMs }

/-- The tracker unarmed in NONE with its marks clear (R120, R127). -/
def Tracker.unarmed : Tracker :=
  { state := .none, direction := .forward, armed := false, multiple := false, exited := false }

/-- The lane after a full reset: IDLE at a gate, FLOW at the vessel station (R120). -/
def Lane.afterReset (straps : Station) : Lane :=
  { state := if straps = 0 then .flow else .idle, holdPending := false, settleMark := true, recovery := false,
    faultCause := none, remaining := 0, tracker := Tracker.unarmed, paid := 0, unpaid := 0, excess := 0,
    egressPassages := 0, mode := .flow, passageWait := .stopped, clearTimer := .stopped, loiterA := .stopped,
    loiterB := .stopped }

/-- A plate after a full reset (R145). -/
def Plate.afterReset : Plate :=
  { phase := .stopped, ticks := 0, reading := 0, result := .none, cls := .empty, candidate := none, candidateRun := 0,
    bad := 0, fault := false, settle := 0, offset := 0 }

/-- The converter after a full reset (R145, R157). -/
def Converter.afterReset : Converter :=
  { turn := none, plateA := Plate.afterReset, plateB := Plate.afterReset }

/-- The barrier driver after a full reset (R161, R175). -/
def Barrier.afterReset : Barrier :=
  { state := .unknown, output := .off, movement := none, retry := 0, obstructions := 0, latch := false,
    unconfirmed := false, pendingClose := false, reDrive := none, egressMark := false, brakeTimer := .stopped,
    travelTimer := .stopped, pauseTimer := .stopped, reDriveTimer := .stopped, openSwitch := false,
    closedSwitch := false }

/-- The egress unit after a full reset (R176). -/
def Egress.afterReset : Egress := { state := .normal, origin := .none, input := false, endMark := false }

/-- The part after a full reset that reads `straps` on the STN pins, with the HSEL input at `hsel` (R196 and the reset
values of each block). -/
def State.afterReset (straps : Station) (hsel : Bool) : State :=
  { port := HostPort.afterReset hsel, config := ConfigRecord.default, locked := false, events := EventQueue.afterReset,
    link := Link.afterReset, presence := Presence.afterReset straps, vessel := Vessel.afterReset,
    view := WindowView.afterReset, account := Account.afterReset, admission := Admission.afterReset,
    list := RecentList.afterReset, lane := Lane.afterReset straps, converter := Converter.afterReset,
    barrier := Barrier.afterReset, egress := Egress.afterReset, pending := [] }

/-- The machine right after power-on, with the STN pins reading 0 and HSEL deasserted (log entries 6 and 9). -/
def State.reset : State := State.afterReset 0 false

/-! ## Updates, one per field -/

def State.setPort (s : State) (x : HostPort) : State := { s with port := x }
def State.setConfig (s : State) (x : ConfigRecord) : State := { s with config := x }
def State.setLocked (s : State) (x : Bool) : State := { s with locked := x }
def State.setEvents (s : State) (x : EventQueue) : State := { s with events := x }
def State.setLink (s : State) (x : Link) : State := { s with link := x }
def State.setPresence (s : State) (x : Presence) : State := { s with presence := x }
def State.setVessel (s : State) (x : Vessel) : State := { s with vessel := x }
def State.setView (s : State) (x : WindowView) : State := { s with view := x }
def State.setAccount (s : State) (x : Account) : State := { s with account := x }
def State.setAdmission (s : State) (x : Admission) : State := { s with admission := x }
def State.setList (s : State) (x : RecentList) : State := { s with list := x }
def State.setLane (s : State) (x : Lane) : State := { s with lane := x }
def State.setConverter (s : State) (x : Converter) : State := { s with converter := x }
def State.setBarrier (s : State) (x : Barrier) : State := { s with barrier := x }
def State.setEgress (s : State) (x : Egress) : State := { s with egress := x }
def State.setPending (s : State) (x : List Instr) : State := { s with pending := x }

end Sys2Proof.Machine
end

