-- ==== Sys2Proof/Machine/Operands.lean ====
section
/-! DEFINITION. The operand forms: byte order of frame and message fields, the codes of states and kinds, the frame layouts
of R8 to R10, the format check of R7, and the layout and ranges of the configuration record (R189). -/

namespace Sys2Proof.Machine

/-! ## Bytes and two-byte fields -/

/-- The 16 bits of a two-byte field or event argument that holds `n`. A number above 65535 does not fit: its bits are the
free value `Config.wideWord` (log entry 4). -/
def word16 (n : Nat) : Word16 := if n ≤ 65535 then BitVec.ofNat 16 n else Config.wideWord n

/-- One byte of a message or frame that holds `n`. -/
def byteOf (n : Nat) : Byte := BitVec.ofNat 8 n

/-- A flag or mark as a byte, 1 when set (R188). -/
def flagByte (b : Bool) : Byte := if b then 1 else 0

/-- A two-byte field, most significant byte first (R4, R183). -/
def wordBytes (w : Word16) : List Byte := [w.extractLsb' 8 8, w.extractLsb' 0 8]

/-- A count as a two-byte field. -/
def countBytes (n : Nat) : List Byte := wordBytes (word16 n)

/-- A ticket key as four bytes, most significant byte first (R10, R186). -/
def keyBytes (k : TicketKey) : List Byte :=
  [k.extractLsb' 24 8, k.extractLsb' 16 8, k.extractLsb' 8 8, k.extractLsb' 0 8]

/-- The byte at an offset of a body or payload; 0 beyond its end, where no layout reads. -/
def byteAt (body : List Byte) (i : Nat) : Byte := body.getD i 0

/-- The number in the byte at an offset. -/
def natAt (body : List Byte) (i : Nat) : Nat := (byteAt body i).toNat

/-- The number in the two bytes at an offset, most significant byte first (R4). -/
def wordAt (body : List Byte) (i : Nat) : Nat := natAt body i * 256 + natAt body (i + 1)

/-- The ticket key in the four bytes at an offset, most significant byte first (R10). -/
def keyAt (body : List Byte) (i : Nat) : TicketKey :=
  byteAt body i ++ byteAt body (i + 1) ++ byteAt body (i + 2) ++ byteAt body (i + 3)

/-! ## Codes -/

/-- Frame kind codes (R6). -/
def FrameKind.code : FrameKind → BitVec 4
  | .status => 1
  | .offer => 2
  | .close => 3
  | .claim => 4
  | .grant => 5
  | .ticket => 6
  | .tally => 7
  | .egress => 8
  | .egressEnd => 9
  | .test => 10

/-- The frame kind of a kind code; none for 0 and 11 to 15 (R6). -/
def FrameKind.ofCode (c : BitVec 4) : Option FrameKind :=
  match c.toNat with
  | 1 => some .status
  | 2 => some .offer
  | 3 => some .close
  | 4 => some .claim
  | 5 => some .grant
  | 6 => some .ticket
  | 7 => some .tally
  | 8 => some .egress
  | 9 => some .egressEnd
  | 10 => some .test
  | _ => none

/-- Lane state codes: R8's, with vessel FLOW coded 7 (R120, R188). -/
def LaneState.code : LaneState → Nat
  | .idle => 0
  | .opening => 1
  | .opened => 2
  | .closing => 3
  | .held => 4
  | .fault => 5
  | .egress => 6
  | .flow => 7

/-- Fault cause codes (R137). -/
def FaultCause.code : FaultCause → Nat
  | .plateA => 1
  | .plateB => 2
  | .stall => 3
  | .travel => 4
  | .switch => 5

/-- Plate codes (R133, R154). -/
def plateCode : PlateId → Nat
  | .a => 1
  | .b => 2

/-- Position and direction codes of barrier events: 1 open, 2 closed (R168, R169, R173). -/
def endCode : EndId → Nat
  | .openEnd => 1
  | .closedEnd => 2

/-- Movement origin codes (R167). -/
def Origin.code : Origin → Nat
  | .command => 1
  | .reDrive => 2

/-- Event codes (R192). -/
def EventKind.code : EventKind → Nat
  | .admitted => 1
  | .refused => 2
  | .passageCounted => 10
  | .tailgate => 11
  | .intrusion => 12
  | .wrongWay => 13
  | .alightCounted => 14
  | .passageExpired => 15
  | .loiter => 20
  | .holdEffective => 21
  | .laneFault => 22
  | .faultCleared => 23
  | .plateFault => 24
  | .obstructed => 25
  | .barrierStall => 26
  | .positionUnconfirmed => 27
  | .drift => 28
  | .windowOpened => 30
  | .windowClosing => 31
  | .tally => 32
  | .lateTally => 33
  | .overCapacity => 34
  | .countUnderflow => 35
  | .windowClosed => 36
  | .windowOrphaned => 37
  | .windowResumed => 38
  | .windowAbandoned => 39
  | .windowEnded => 40
  | .windowFull => 41
  | .accountLost => 42
  | .isolated => 50
  | .linkRestored => 51
  | .peerJoined => 52
  | .peerLost => 53
  | .frameDropped => 54
  | .duplicateAdmission => 60
  | .listEviction => 61
  | .egressBegan => 70
  | .egressEnded => 71

/-- The group code of an event kind, 0 to 6 (R192). -/
def EventKind.group : EventKind → Nat
  | .admitted | .refused => 0
  | .passageCounted | .tailgate | .intrusion | .wrongWay | .alightCounted | .passageExpired => 1
  | .loiter | .holdEffective | .laneFault | .faultCleared | .plateFault | .obstructed | .barrierStall
  | .positionUnconfirmed | .drift => 2
  | .windowOpened | .windowClosing | .tally | .lateTally | .overCapacity | .countUnderflow | .windowClosed
  | .windowOrphaned | .windowResumed | .windowAbandoned | .windowEnded | .windowFull | .accountLost => 3
  | .isolated | .linkRestored | .peerJoined | .peerLost | .frameDropped => 4
  | .duplicateAdmission | .listEviction => 5
  | .egressBegan | .egressEnded => 6

/-- The eleven bytes of an event record (R192). -/
def EventRecord.bytes (r : EventRecord) : List Byte :=
  [byteOf r.kind.code, byteOf (r.kind.group + if r.lost then 128 else 0), r.sequence]
    ++ wordBytes r.time ++ wordBytes r.arg1 ++ wordBytes r.arg2 ++ wordBytes r.arg3

/-! ## Format checks (R7) -/

/-- The format check of a frame of an assigned kind (R7); false also for a TEST frame, which is of unknown kind on the
line (R6). Flag bits that R8 does not assign are ignored. -/
def formatCheck (kind : FrameKind) (sender : Station) (window : Byte) (body : List Byte) : Bool :=
  let fromVessel := sender == 0
  let numbered := window != 0
  let size := body.length
  match kind with
  | .status =>
    if fromVessel then
      size == 9 && decide (natAt body 0 ≤ 2) && decide (natAt body 8 ≤ 1) &&
        (if natAt body 0 = 0 then window == 0 else numbered)
    else
      size == 14 && decide (natAt body 0 ≤ 6) && (numbered || !(byteAt body 1).getLsbD 1)
  | .offer => fromVessel && numbered && size == 2 && decide (1 ≤ wordAt body 0) && decide (wordAt body 0 ≤ 999)
  | .close => fromVessel && numbered && size == 0
  | .claim => !fromVessel && numbered && size == 2
  | .grant =>
    fromVessel && numbered && (size == 5 || size == 8 || size == 11 || size == 14) &&
      [2, 5, 8, 11].all fun i => decide (size ≤ i) || (decide (1 ≤ natAt body i) && decide (natAt body i ≤ 15))
  | .ticket =>
    !fromVessel && numbered && size == 6 && decide (natAt body 4 ≤ 7) && decide (1 ≤ natAt body 5) &&
      decide (natAt body 5 ≤ 8)
  | .tally => !fromVessel && numbered && size == 10
  | .egress => window == 0 && size == 0
  | .egressEnd => window == 0 && size == 0
  | .test => false

/-- A good frame is of unknown kind when its kind code is not assigned, it is a TEST frame, or it fails the format check of
its kind (R6, R7). -/
def isUnknownKind (sender kind : BitVec 4) (window : Byte) (body : List Byte) : Bool :=
  match FrameKind.ofCode kind with
  | none => true
  | some k => !formatCheck k sender window body

/-! ## Frame bodies (R8 to R10) -/

/-- The fields of a gate's STATUS that its hearers use (R8). -/
structure GateStatus where
  granted : Nat
  returned : Nat
  paid : Nat
  unpaid : Nat
  excess : Nat
  deriving DecidableEq, Repr

/-- Reads a gate's STATUS body (R8). -/
def GateStatus.ofBody (body : List Byte) : GateStatus :=
  { granted := wordAt body 2, returned := wordAt body 4, paid := wordAt body 6, unpaid := wordAt body 8,
    excess := wordAt body 10 }

/-- Reads a TALLY body, whose totals stand two bytes earlier than in a gate's STATUS (R9). -/
def GateStatus.ofTally (body : List Byte) : GateStatus :=
  { granted := wordAt body 0, returned := wordAt body 2, paid := wordAt body 4, unpaid := wordAt body 6,
    excess := wordAt body 8 }

/-- The egress flag of a STATUS of either role: bit 0 of the flags byte (R8). -/
def statusEgressFlag (body : List Byte) : Bool := (byteAt body 1).getLsbD 0

/-- The view flag of a gate's STATUS: bit 1 of the flags byte (R8). -/
def statusViewFlag (body : List Byte) : Bool := (byteAt body 1).getLsbD 1

/-- The station and granted pairs of a GRANT body, in the order served (R9). -/
def grantPairs (body : List Byte) : List (Nat × Nat) :=
  ([2, 5, 8, 11].filter fun i => decide (i < body.length)).map fun i => (natAt body i, wordAt body (i + 1))

/-- The body of a GRANT: remainder, then the pairs in the order served (R9). -/
def grantBody (remainder : Nat) (pairs : List (Nat × Nat)) : List Byte :=
  countBytes remainder ++ (pairs.map fun p => byteOf p.1 :: countBytes p.2).flatten

/-- The body of a TICKET (R10). -/
def TicketContents.body (t : TicketContents) : List Byte := keyBytes t.key ++ [byteOf t.cls, byteOf t.party]

/-- The test pattern of a TEST frame (R10). -/
def testPattern : List Byte := [255, 126, 0, 248, 31, 62, 124, 170, 85, 1, 128, 254, 127, 195, 60, 90]

/-! ## Configuration record (R189) -/

/-- Reads a barrier fault mode byte (R189). -/
def FaultMode.ofCode : Nat → FaultMode
  | 0 => .latch
  | 1 => .retry
  | 2 => .report
  | _ => .ignore

/-- The record that a payload of 30 bytes spells, in the order of R189's table. -/
def ConfigRecord.ofPayload (b : List Byte) : ConfigRecord where
  resolution := natAt b 0
  occupy := wordAt b 1
  multiple := wordAt b 3
  hysteresis := natAt b 5
  creditBlock := natAt b 6
  lowMark := natAt b 7
  passageWait := natAt b 8
  faultMode := FaultMode.ofCode (natAt b 9)
  stallLevel := natAt b 10
  deglitch := natAt b 11
  capacity := wordAt b 12
  classes := Vector.ofFn fun c : Fin 8 => ⟨natAt b (14 + 2 * c), natAt b (15 + 2 * c)⟩

/-- R189's ranges, by index, on the values the payload carries: each field's index and whether it is in range. The hold
times (indices 12, 14, … 26) allow every byte. -/
def configChecks (b : List Byte) : List (Nat × Bool) :=
  let r := ConfigRecord.ofPayload b
  [ (1, decide (r.resolution ≤ 3)),
    (2, decide (1 ≤ r.occupy) && decide (r.occupy ≤ 4095)),
    (3, decide (r.occupy + r.hysteresis < r.multiple) && decide (r.multiple ≤ 4095)),
    (4, decide (r.hysteresis < r.occupy)),
    (5, decide (1 ≤ r.creditBlock) && decide (r.creditBlock ≤ 16)),
    (6, decide (r.lowMark + 1 ≤ r.creditBlock)),
    (7, decide (2 ≤ r.passageWait) && decide (r.passageWait ≤ 30)),
    (8, decide (natAt b 9 ≤ 3)),
    (9, decide (r.stallLevel ≤ 3)),
    (10, decide (r.deglitch ≤ 3)),
    (11, decide (1 ≤ r.capacity) && decide (r.capacity ≤ 999)) ]
    ++ (List.range 8).map fun c =>
      (13 + 2 * c, decide (1 ≤ natAt b (15 + 2 * c)) && decide (natAt b (15 + 2 * c) ≤ 8))

/-- The index of the lowest-numbered field out of range, if any (R189). -/
def firstBadField (b : List Byte) : Option Nat := ((configChecks b).find? fun c => !c.2).map Prod.fst

end Sys2Proof.Machine
end

