-- ==== Sys2Proof/Machine/Flags.lean ====
section
/-! DEFINITION. Everything the part computes from its state without changing it: roles, outputs READY and ATTN, credits,
marks, the plate condition of the barrier driver, the closing conditions of the lane. -/

namespace Sys2Proof.Machine

/-! ## Timers -/

/-- The timer is running. -/
def Timer.isRunning : Timer → Bool
  | .running _ => true
  | _ => false

/-- A running timer is suspended and keeps the time it has left (R123). -/
def Timer.suspend : Timer → Timer
  | .running left => .suspended left
  | t => t

/-- A suspended timer resumes from the time it has left (R123). -/
def Timer.resume : Timer → Timer
  | .suspended left => .running left
  | t => t

/-- One millisecond passes for the timer: running, it has one less to run, down to 0 (log entry 3). -/
def Timer.tick : Timer → Timer
  | .running left => .running (left - 1)
  | t => t

/-- One millisecond passes for a timer that has no expiry command: it stops when its time has run (R173, log entry 3). -/
def Timer.tickOut : Timer → Timer
  | .running left => if left ≤ 1 then .stopped else .running (left - 1)
  | t => t

/-! ## Role and station state -/

/-- The vessel role: station 0 (R25). -/
def State.isVessel (s : State) : Bool := s.presence.number == 0

/-- The gate role: stations 1 to 15 (R25). -/
def State.isGate (s : State) : Bool := !s.isVessel

/-- The station may transmit (R1, R14). -/
def State.mayTransmit (s : State) : Bool :=
  s.presence.state == .active || s.presence.state == .isolated

/-- The station is in egress (R176). -/
def State.inEgress (s : State) : Bool := s.egress.state == .egress

/-! ## Host port outputs -/

/-- READY: asserted in every port state but WORK (R183). -/
def State.ready (s : State) : Bool := s.port.state != .work

/-- A record's group is unmasked (R195). -/
def EventQueue.unmasked (q : EventQueue) (r : EventRecord) : Bool := !q.mask.getLsbD r.kind.group

/-- ATTN: the queue holds at least one record whose group is unmasked (R195). -/
def State.attn (s : State) : Bool := s.events.records.any s.events.unmasked

/-! ## Transmit queue -/

/-- The entry of a kind in the transmit queue, if any (R19: at most one). -/
def State.entryOf (s : State) (kind : FrameKind) : Option TxEntry := s.link.queue.find? fun e => e.kind == kind

/-- An entry of the kind is in the queue and SENDING. -/
def State.isSending (s : State) (kind : FrameKind) : Bool :=
  s.link.queue.any fun e => e.kind == kind && e.sending

/-- The slot position p of the station (R13). -/
def State.slotPosition (s : State) : Nat := (s.presence.number - s.link.lastSender - 1).toNat

/-! ## Gate place account -/

/-- Held credits: granted less returned less charged (R64). -/
def State.held (s : State) : Nat := s.account.granted - s.account.returned - s.account.charged

/-- Free credits: held less reserved (R64). -/
def State.freeCredits (s : State) : Nat := s.held - s.account.reserved

/-- The gate is in its return state: lane HELD or FAULT, or the station in egress (R79). -/
def State.inReturnState (s : State) : Bool :=
  s.isGate && (s.lane.state == .held || s.lane.state == .fault || s.inEgress)

/-- The conditions of a background claim (R67). -/
def State.backgroundDue (s : State) : Bool :=
  s.isGate && s.view.state == .opened && s.mayTransmit && s.account.announced &&
    decide (s.held < s.config.lowMark) && s.account.claim == .none && !s.account.full &&
    s.lane.state != .held && s.lane.state != .fault && !s.lane.holdPending && !s.inEgress

/-- The total a demand of `party` places wants (R68). -/
def State.demandTotal (s : State) (party : Nat) : Nat :=
  s.account.granted + max s.config.creditBlock (party - s.held)

/-! ## Presentation -/

/-- The class record of a class number (R86); a number above 7 reads class 7, and no rule looks one up. -/
def State.classRecord (s : State) (cls : Nat) : ClassRecord := s.config.classes[min cls 7]'(by omega)

/-- The ticket key is in the recent admission list (R115). -/
def State.isListed (s : State) (key : TicketKey) : Bool := s.list.entries.any fun e => e.key == key

/-! ## Gate account table and completion -/

/-- The row of gate station s (1 to 15) in the gate account table. -/
def Vessel.row (v : Vessel) (g : Station) : GateRow := v.gates[g.toNat - 1]'(by have := g.isLt; omega)

/-- The completion condition (R52): every gate granted more than 0 has its final flag. -/
def State.tallyComplete (s : State) : Bool := s.vessel.gates.toList.all fun g => g.granted == 0 || g.final

/-! ## Peer table -/

/-- The peer table entry of a station (R33). -/
def Presence.peer (p : Presence) (n : Station) : Peer := p.peers[n.toNat]'n.isLt

/-! ## Plates -/

/-- The record of a plate. -/
def Converter.plate (c : Converter) : PlateId → Plate
  | .a => c.plateA
  | .b => c.plateB

/-- A plate is classed EMPTY with its fault flag clear. -/
def Plate.isClear (p : Plate) : Bool := p.cls == .empty && !p.fault

/-- Both plates are classed EMPTY, with neither fault flag set (R124, R140, R162). -/
def State.platesClear (s : State) : Bool := s.converter.plateA.isClear && s.converter.plateB.isClear

/-- N of the resolution setting (R146). -/
def State.ticksN (s : State) : Nat := 4096 / 2 ^ s.config.resolution

/-! ## Barrier and lane -/

/-- The plate condition of the barrier driver (R162). -/
def State.plateCondition (s : State) : Bool := s.platesClear && !s.barrier.egressMark

/-- The filtered end switch of an end is active (R160). -/
def Barrier.switch (b : Barrier) : EndId → Bool
  | .openEnd => b.openSwitch
  | .closedEnd => b.closedSwitch

/-- The lane runs in FLOW: the vessel lane in FLOW mode (R143). -/
def State.flowMode (s : State) : Bool := s.isVessel && s.lane.mode == .flow

/-- The lane runs in ALIGHT: the vessel lane in ALIGHT mode (R144). -/
def State.alightMode (s : State) : Bool := s.isVessel && s.lane.mode == .alight

/-- The closing condition of a lane in OPEN (R124); at the vessel lane in ALIGHT without the part on remaining (R144). -/
def State.closingCondition (s : State) : Bool :=
  s.lane.state == .opened && (s.lane.remaining == 0 || s.alightMode) && !s.lane.settleMark && s.platesClear &&
    s.barrier.state == .opened

/-- The recovery close is awaited and its condition holds (R140). While the settle mark is set the recovery close waits, as R126
says of every close by the lane: the model's choice, log entry 29, since R140 does not name the mark. -/
def State.recoveryCondition (s : State) : Bool :=
  s.lane.state == .fault && s.lane.recovery && !s.flowMode && s.lane.remaining == 0 && !s.lane.settleMark &&
    s.platesClear

/-- One of the two conditions the clear timer measures (R124, R140); never in SETUP, where the lane issues no command
(R120). -/
def State.clearCondition (s : State) : Bool :=
  s.presence.state != .setup && (s.closingCondition || s.recoveryCondition)

/-- The lane is finished: remaining is 0 and the tracker is NONE (R61, R125). -/
def State.laneFinished (s : State) : Bool := s.lane.remaining == 0 && s.lane.tracker.state == .none

/-- The tracker may arm (R126, R127): it is unarmed, the converter runs, both plates have settled (the settle mark is
clear), neither plate is faulted, the vessel lane is not in FLOW, and both plates are classed EMPTY. -/
def State.armDue (s : State) : Bool :=
  !s.lane.tracker.armed && s.presence.state != .setup && !s.lane.settleMark && !s.flowMode && s.platesClear

/-- A re-drive is due and may start (R173). -/
def State.reDriveDue (s : State) : Bool :=
  match s.barrier.reDrive with
  | none => false
  | some position =>
    (s.barrier.state == .opened || s.barrier.state == .closed || s.barrier.state == .unknown) &&
      s.barrier.movement.isNone && !s.barrier.reDriveTimer.isRunning && !s.barrier.switch position &&
      (position == .openEnd || s.plateCondition)

end Sys2Proof.Machine
end

