-- ==== Sys2Proof/Machine/Ops.lean ====
section
/-! DEFINITION. The operations every block shares: raising an event, queuing and withdrawing frames, the STATUS trigger,
the clear timer, updates of one table entry, and the full reset. -/

namespace Sys2Proof.Machine

/-! ## Events (R192, R193) -/

/-- An event raised with its arguments: queued with the sequence number and time, or lost at a full queue (R192, R193). -/
def EventQueue.raise (q : EventQueue) (kind : EventKind) (a b c : Word16) : EventQueue :=
  if q.records.length < Config.eventQueueSize then
    { q with
      records := q.records ++
        [{ kind := kind, lost := q.lostBefore, sequence := q.sequence, time := q.msCount, arg1 := a, arg2 := b,
           arg3 := c }]
      lostBefore := false
      sequence := q.sequence + 1 }
  else { q with lostBefore := true }

/-- A block raises an event; unused arguments are 0 (R192). -/
def State.raise (s : State) (kind : EventKind) (a : Nat := 0) (b : Nat := 0) (c : Nat := 0) : State :=
  s.setEvents (s.events.raise kind (word16 a) (word16 b) (word16 c))

/-! ## Transmit queue (R19, R20, R22) -/

/-- A new WAITING entry: attempt count 0, requeue mark clear (R19). -/
def TxEntry.fresh (kind : FrameKind) : TxEntry :=
  { kind := kind, sending := false, attempts := 0, requeue := false, ticket := none }

/-- A block queues a kind other than TICKET, EGRESS and EGRESS END (R19). -/
def Link.queueKind (l : Link) (kind : FrameKind) : Link :=
  if l.queue.any fun e => e.kind == kind then
    { l with queue := l.queue.map fun e => if e.kind == kind && e.sending then { e with requeue := true } else e }
  else { l with queue := l.queue ++ [TxEntry.fresh kind] }

/-- The admission unit queues TICKET with its fixed contents; a TICKET already queued stays as it is (R19, R92). -/
def Link.queueTicket (l : Link) (t : TicketContents) : Link :=
  if l.queue.any fun e => e.kind == .ticket then l
  else { l with queue := l.queue ++ [{ TxEntry.fresh .ticket with ticket := some t }] }

/-- The evacuation kinds (R20). -/
def FrameKind.isEvacuation : FrameKind → Bool
  | .egress | .egressEnd => true
  | _ => false

/-- Placement of an evacuation kind: at the head, or directly behind a SENDING head (R20). -/
def placeAtHead (e : TxEntry) : List TxEntry → List TxEntry
  | [] => [e]
  | h :: rest => if h.sending then h :: e :: rest else e :: h :: rest

/-- The egress unit queues EGRESS or EGRESS END (R20): into the deferred slot while either kind is SENDING; nothing when the
same kind is WAITING; else at the head, with a WAITING entry of the opposite kind removed. -/
def Link.queueEvacuation (l : Link) (kind : FrameKind) : Link :=
  if l.queue.any fun e => e.kind.isEvacuation && e.sending then { l with deferred := some kind }
  else if l.queue.any fun e => e.kind == kind then l
  else
    { l with queue := placeAtHead (TxEntry.fresh kind) (l.queue.filter fun e => !e.kind.isEvacuation) }

/-- A block withdraws its entry (R22): a WAITING entry leaves; a SENDING one stays and its requeue mark clears; the deferred
slot is emptied when it holds that kind. -/
def Link.withdraw (l : Link) (kind : FrameKind) : Link :=
  { l with
    queue := (l.queue.filter fun e => !(e.kind == kind && !e.sending)).map fun e =>
      if e.kind == kind then { e with requeue := false } else e
    deferred := if l.deferred = some kind then none else l.deferred }

/-- A block queues a kind (R19). -/
def State.queueKind (s : State) (kind : FrameKind) : State := s.setLink (s.link.queueKind kind)

/-- The egress unit queues an evacuation kind (R20). -/
def State.queueEvacuation (s : State) (kind : FrameKind) : State := s.setLink (s.link.queueEvacuation kind)

/-- A block withdraws its entry of a kind (R22). -/
def State.withdraw (s : State) (kind : FrameKind) : State := s.setLink (s.link.withdraw kind)

/-- A STATUS trigger: in ACTIVE and ISOLATED the presence unit queues a STATUS at once (R37). -/
def State.statusTrigger (s : State) : State := if s.mayTransmit then s.queueKind .status else s

/-! ## One entry of a table -/

/-- Every entry of a table changed by `f`. -/
def mapEntries {α : Type} {n : Nat} (v : Vector α n) (f : α → α) : Vector α n :=
  ⟨⟨v.toList.map f⟩, by simp⟩

/-- The peer table entry of a station replaced (R33). -/
def Presence.setPeer (p : Presence) (n : Station) (x : Peer) : Presence :=
  { p with peers := p.peers.set n.toNat x n.isLt }

/-- The row of gate station g replaced in the gate account table. -/
def Vessel.setRow (v : Vessel) (g : Station) (x : GateRow) : Vessel :=
  { v with gates := v.gates.set (g.toNat - 1) x (by have := g.isLt; omega) }

/-- The record of a plate replaced. -/
def Converter.setPlate (c : Converter) (p : PlateId) (x : Plate) : Converter :=
  match p with
  | .a => { c with plateA := x }
  | .b => { c with plateB := x }

/-! ## Clear timer (R124, R140) -/

/-- The clear timer after an event that took `before` to `after`: it starts when its condition comes to hold, runs on while
it holds, and stops when any part of it ceases to hold (R124, R140). -/
def settleClear (before after : State) : State :=
  if after.clearCondition then
    if before.clearCondition then after
    else after.setLane { after.lane with clearTimer := .running Config.clearMs }
  else after.setLane { after.lane with clearTimer := .stopped }

/-! ## Full reset (R196) -/

/-- Every block takes its reset values, with the STN pins read anew (R25, R196). The HSEL input and the queue of commands
are outside the part. -/
def State.fullReset (s : State) (straps : Station) : State :=
  (State.afterReset straps s.port.hsel).setPending s.pending

end Sys2Proof.Machine
end

