-- ==== Sys2Proof/Machine/Account.lean ====
section
/-! DEFINITION. The gate place account (chapter 4): claims, the background check, returns, charges and refunds, and the
clearing; with the meanings of the claim repeat timer's expiry and of a kept demand's start. -/

namespace Sys2Proof.Machine

/-! ## Claims -/

/-- A claim starts (R69): OUTSTANDING of its kind, wait and repeat timers started, CLAIM queued. -/
def State.startClaim (s : State) (kind : Claim) (wanted : Nat) : State :=
  (s.setAccount
    { s.account with
      claim := kind
      wanted := wanted
      waitTimer := .running Config.claimWaitMs
      repeatTimer := .running Config.claimRepeatMs }).queueKind .claim

/-- The background claim check (R67). -/
def State.backgroundCheck (s : State) : State :=
  if s.backgroundDue then s.startClaim .background (s.account.granted + s.config.creditBlock) else s

/-- A claim ends, without the report of a demand (R71): state NONE, both timers stopped, the CLAIM entry withdrawn; wanted
keeps its value. -/
def State.dropClaim (s : State) : State :=
  (s.setAccount { s.account with claim := .none, waitTimer := .stopped, repeatTimer := .stopped }).withdraw .claim

/-- An outstanding claim ends with cause ENDED (R72), whose report decides nothing (R91). -/
def State.endClaim (s : State) : State := if s.account.claim = .none then s else s.dropClaim

/-- A demand from the admission unit (R68): a DEMAND claim starts, or the outstanding claim becomes DEMAND with wanted raised
and the wait timer restarted, or the demand is kept until the announced mark is set. -/
def State.demand (s : State) (party : Nat) : State :=
  if s.account.claim = .none then
    if s.account.announced then s.startClaim .demand (s.demandTotal party)
    else s.setAccount { s.account with kept := some party }
  else
    (s.setAccount
      { s.account with
        claim := .demand
        wanted := max s.account.wanted (s.demandTotal party)
        waitTimer := .running Config.claimWaitMs }).queueKind .claim

/-! ## Returns, charges, refunds -/

/-- A return (R79): the free credits are added to returned, in every view state but NONE; a return that raises returned
queues a STATUS (R37). -/
def State.returnFree (s : State) : State :=
  if s.view.state = .none ∨ s.freeCredits = 0 then s
  else (s.setAccount { s.account with returned := s.account.returned + s.freeCredits }).statusTrigger

/-- The gate enters its return state (R72, R79): an outstanding claim ends, then the free credits are returned. -/
def State.enterReturn (s : State) : State := s.endClaim.returnFree

/-- The account's side of a refund of `n` passages (R83): charged falls by n, to no less than 0; the rise of held is returned
in the return state, and makes the background check otherwise. -/
def State.refundAccount (s : State) (n : Nat) : State :=
  let t := s.setAccount { s.account with charged := s.account.charged - n }
  if t.inReturnState then t.returnFree else t.backgroundCheck

/-- A reservation lapses (R65): reserved returns to 0; in the return state the freed credits are returned (R79). -/
def State.lapse (s : State) : State :=
  let t := s.setAccount { s.account with reserved := 0 }
  if t.inReturnState then t.returnFree else t

/-- The account is cleared (R63, R84) and the lane's paid, unpaid and excess with it (R120); a clearing that lowers returned
from above 0 queues a STATUS (R37). -/
def State.clearAccount (s : State) : State :=
  let t := s.endClaim
  let u := (t.setAccount Account.afterReset).setLane { t.lane with paid := 0, unpaid := 0, excess := 0 }
  if s.account.returned = 0 then u else u.statusTrigger

/-! ## Meanings -/

/-- CLAIM_REPEAT_TIMER_EXPIRY (R69): CLAIM is queued again and the repeat timer restarts. -/
def execClaimRepeatTimerExpiry (s : State) : Host.Outcome State Fault Refusal :=
  .next <|
    if s.account.repeatTimer.isRunning ∧ s.account.claim ≠ .none then
      (s.setAccount { s.account with repeatTimer := .running Config.claimRepeatMs }).queueKind .claim
    else s

/-- The presentation waits in AWAIT_PLACES. -/
def State.awaitsPlaces (s : State) : Bool :=
  match s.admission.record with
  | some p => p.state == .awaitPlaces
  | none => false

/-- KEPT_DEMAND_START (R68): with the announced mark set and the presentation still in AWAIT_PLACES, the kept demand starts
its claim. A background claim that the same mark has started meanwhile is raised to DEMAND (log entry 17). -/
def execKeptDemandStart (s : State) : Host.Outcome State Fault Refusal :=
  .next <|
    match s.account.kept with
    | some party =>
      if s.account.announced ∧ s.awaitsPlaces then
        (s.setAccount { s.account with kept := none }).demand party
      else s
    | none => s

end Sys2Proof.Machine
end

