-- ==== Sys2Proof/Machine/Admission.lean ====
section
/-! DEFINITION. The admission unit's part of decisions other blocks bring about (chapter 5): hold becoming effective, refusal
of a pending presentation, and the events that stop it. -/

namespace Sys2Proof.Machine

/-- Reasons of REFUSED, in replies and events (R96). -/
inductive Reason where
  | notStarted
  | egress
  | laneUnavailable
  | laneBusy
  | cls
  | noWindow
  | passback
  | noGrant
  | full
  | claimedElsewhere
  | cancelled
  | windowClosed
  | link
  | laneRestart
  deriving DecidableEq, Repr

/-- The codes of R96. -/
def Reason.code : Reason → Nat
  | .notStarted => 1
  | .egress => 2
  | .laneUnavailable => 3
  | .laneBusy => 4
  | .cls => 5
  | .noWindow => 6
  | .passback => 7
  | .noGrant => 8
  | .full => 9
  | .claimedElsewhere => 10
  | .cancelled => 11
  | .windowClosed => 12
  | .link => 13
  | .laneRestart => 14

/-- A stop cause as a refusal's reason (R99). -/
def StopCause.reason : StopCause → Reason
  | .windowClosed => .windowClosed
  | .laneRestart => .laneRestart
  | .laneUnavailable => .laneUnavailable

/-! ## Hold becoming effective (R135) -/

/-- The hold becomes effective: HELD, hold pending clear, the gate enters its return state, HOLD EFFECTIVE (R135). -/
def State.holdEffective (s : State) : State :=
  let t := (s.setLane { s.lane with state := .held, holdPending := false }).enterReturn
  t.raise .holdEffective t.account.returned

/-- The hold check (R135). -/
def State.holdCheck (s : State) : State :=
  if s.isGate ∧ s.lane.state = .idle ∧ s.admission.record = none ∧ s.lane.holdPending then s.holdEffective else s

/-! ## Refusal (R95) -/

/-- The TICKET entry of a presentation in AWAIT_LINK has started: it is SENDING (R93). -/
def State.ticketStarted (s : State) : Bool := s.isSending .ticket

/-- A pending presentation is refused (R95): its WAITING TICKET is withdrawn, its reservation lapses, a kept demand is
dropped, REFUSED is raised, last decided takes its number and the record is removed; a pending hold is then checked (R135). -/
def State.refuse (s : State) (reason : Reason) (detail : Nat) : State :=
  match s.admission.record with
  | none => s
  | some p =>
    let t := if p.state = .awaitLink then (s.withdraw .ticket).lapse else s
    let u := (t.setAccount { t.account with kept := none }).raise .refused p.number reason.code detail
    (u.setAdmission { u.admission with record := none, lastDecided := some p.number }).holdCheck

/-- One of the three events of R99 reaches a pending presentation: with its TICKET SENDING the cause is noted unless one is
noted already; otherwise the presentation is refused (R99, R100, R102, R103). -/
def State.stopPresentation (s : State) (cause : StopCause) : State :=
  match s.admission.record with
  | none => s
  | some p =>
    if p.state = .awaitLink ∧ s.ticketStarted then
      s.setAdmission { s.admission with record := some { p with stopCause := some (p.stopCause.getD cause) } }
    else s.refuse cause.reason 0

/-- Entry to egress refuses a pending presentation in every state (R101); a SENDING TICKET is aborted on the line: the entry
leaves and the station's own receiver returns to HUNT (R23). -/
def State.abortPresentation (s : State) : State :=
  let aborted :=
    if s.ticketStarted then
      s.setLink
        { s.link with
          queue := s.link.queue.filter fun e => e.kind != .ticket
          txFrame := none
          hunt := .hunt
          buffer := []
          ones := 0 }
    else s.withdraw .ticket
  aborted.refuse .egress 0

end Sys2Proof.Machine
end

