-- ==== Sys2Proof/Machine/LaneReports.lean ====
section
/-! DEFINITION. The lane sequencer's side of what the barrier driver and the converter report to it: reached OPEN, reached
CLOSED, reversed (R122), a fault (R138), and the end of a recovery (R140). -/

namespace Sys2Proof.Machine

/-- Recovery is complete (R140): the lane takes `next`, the recovery mark and the fault cause clear, FAULT CLEARED. -/
def State.recoveryComplete (s : State) (next : LaneState) : State :=
  (s.setLane { s.lane with state := next, recovery := false, faultCause := none }).raise .faultCleared

/-- Barrier reached OPEN (R122; R140 for the recovery of a vessel lane in FLOW mode). -/
def State.reportOpen (s : State) : State :=
  if s.lane.state = .opening then s.setLane { s.lane with state := .opened }
  else if s.lane.state = .fault ∧ s.lane.recovery ∧ s.flowMode then s.recoveryComplete .flow
  else s

/-- Barrier reached CLOSED (R122, R140), with the hold check of R135. -/
def State.reportClosed (s : State) : State :=
  if s.lane.state = .closing then (s.setLane { s.lane with state := .idle }).holdCheck
  else if s.lane.state = .fault ∧ s.lane.recovery ∧ !s.flowMode then (s.recoveryComplete .idle).holdCheck
  else s

/-- Barrier reversed (R122): CLOSING returns to OPEN; in recovery the clear timer stops and the recovery close is awaited
again, from the full clear time when its condition still holds (R140, R120 for SETUP, log entry 21). -/
def State.reportReversed (s : State) : State :=
  if s.lane.state = .closing then s.setLane { s.lane with state := .opened }
  else if s.lane.state = .fault ∧ s.lane.recovery then
    s.setLane
      { s.lane with clearTimer := if s.clearCondition then .running Config.clearMs else .stopped }
  else s

/-- The lane enters FAULT (R138): state and cause, clear timer stopped; at a gate the pending presentation is stopped (R103)
and the gate enters its return state; LANE FAULT with the lane state before. -/
def State.enterFault (s : State) (cause : FaultCause) : State :=
  let t := s.setLane { s.lane with state := .fault, faultCause := some cause, clearTimer := .stopped }
  let u := if s.isGate then (t.stopPresentation .laneUnavailable).enterReturn else t
  u.raise .laneFault cause.code s.lane.state.code

/-- A fault is reported to the lane, by lane state (R138). -/
def State.reportFault (s : State) (cause : FaultCause) : State :=
  match s.lane.state with
  | .idle | .opening | .opened | .closing | .flow => s.enterFault cause
  | .held => (s.setLane { s.lane with holdPending := true }).enterFault cause
  | .fault =>
    (s.setLane { s.lane with recovery := false, clearTimer := .stopped }).raise .laneFault cause.code
      LaneState.fault.code
  | .egress =>
    (s.setLane { s.lane with faultCause := some (s.lane.faultCause.getD cause) }).raise .laneFault cause.code
      LaneState.egress.code

end Sys2Proof.Machine
end

