-- ==== Sys2Proof/Machine/Barrier.lean ====
section
/-! DEFINITION. The barrier driver (chapter 9): movements and their ends, commands, reversal, fault modes, halting, drift and
re-drive, egress opening; with the meanings of the driver's own commands. -/

namespace Sys2Proof.Machine

/-! ## Movements and ends -/

/-- The barrier state at an end (R165). -/
def endState : EndId → BarrierState
  | .openEnd => .opened
  | .closedEnd => .closed

/-- The lane is told that the barrier has reached an end (R122). -/
def State.reportEnd (s : State) : EndId → State
  | .openEnd => s.reportOpen
  | .closedEnd => s.reportClosed

/-- The driver at the end of a movement (R165, steps 1 to 5). -/
def Barrier.atEnd (b : Barrier) (e : EndId) : Barrier :=
  { b with
    output := .off
    brakeTimer := .stopped
    travelTimer := .stopped
    pauseTimer := .stopped
    state := endState e
    movement := none
    retry := 0
    unconfirmed := false
    obstructions := if e = .closedEnd then 0 else b.obstructions
    reDrive := if b.reDrive = some e then none else b.reDrive }

/-- A movement reaches its end (R165). -/
def State.reachEnd (s : State) (e : EndId) : State := (s.setBarrier (s.barrier.atEnd e)).reportEnd e

/-- A new movement toward open with drive at once: retry count 0, unconfirmed mark clear, travel timer started (R163, R169). -/
def Barrier.driveOpen (b : Barrier) (origin : Origin) : Barrier :=
  { b with
    output := .driveOpen
    state := .opening
    movement := some ⟨.openEnd, origin, false⟩
    retry := 0
    unconfirmed := false
    brakeTimer := .stopped
    pauseTimer := .stopped
    travelTimer := .running Config.travelMs }

/-- A new movement toward closed with drive at once (R164, R169). -/
def Barrier.driveClose (b : Barrier) (origin : Origin) : Barrier :=
  { b with
    output := .driveClose
    state := .closing
    movement := some ⟨.closedEnd, origin, false⟩
    retry := 0
    unconfirmed := false
    brakeTimer := .stopped
    pauseTimer := .stopped
    travelTimer := .running Config.travelMs }

/-- A movement turned the other way: BRAKE for the brake time, then the drive of the new movement toward `e`; the travel timer
restarts and covers the brake time (R159, R163, R164, R166, R169). -/
def Barrier.turn (b : Barrier) (e : EndId) (origin : Origin) : Barrier :=
  { b with
    output := .brake
    state := if e = .openEnd then .opening else .closing
    movement := some ⟨e, origin, false⟩
    retry := 0
    unconfirmed := false
    brakeTimer := .running Config.brakeMs
    pauseTimer := .stopped
    travelTimer := .running Config.travelMs }

/-- A movement toward open begins on a command; with the OPEN switch already active the end is reached at once (R163). -/
def State.beginOpen (s : State) : State :=
  if s.barrier.openSwitch then s.reachEnd .openEnd else s.setBarrier (s.barrier.driveOpen .command)

/-- A movement toward closed begins on a command; with the CLOSED switch already active the end is reached at once (R164). -/
def State.beginClose (s : State) : State :=
  if s.barrier.closedSwitch then s.reachEnd .closedEnd else s.setBarrier (s.barrier.driveClose .command)

/-- A movement toward open on a command while the flap moves toward closed (R163). -/
def State.turnOpen (s : State) : State :=
  if s.barrier.openSwitch then s.reachEnd .openEnd else s.setBarrier (s.barrier.turn .openEnd .command)

/-- A movement toward closed on a command while the flap moves toward open (R164). -/
def State.turnClose (s : State) : State :=
  if s.barrier.closedSwitch then s.reachEnd .closedEnd else s.setBarrier (s.barrier.turn .closedEnd .command)

/-- A command that is taken clears the pending close and sets the re-drive position to none (R163, R164). -/
def State.commandTaken (s : State) : State :=
  s.setBarrier { s.barrier with pendingClose := false, reDrive := none }

/-- The movement's origin becomes COMMAND (R163, R164). -/
def State.movementCommanded (s : State) : State :=
  s.setBarrier { s.barrier with movement := s.barrier.movement.map fun m => { m with origin := .command } }

/-- The one attempt of an egress open command in HALTED (R174): the latch stays set. -/
def State.egressAttempt (s : State) : State :=
  if s.barrier.openSwitch then s.reachEnd .openEnd
  else
    s.setBarrier { s.barrier.driveOpen .command with movement := some ⟨.openEnd, .command, true⟩ }

/-! ## Commands (R163, R164) -/

/-- An open command, by barrier state (R163); `fromEgress` is the egress unit's, which HALTED takes as one attempt (R174). -/
def State.openCommand (s : State) (fromEgress : Bool) : State :=
  match s.barrier.state with
  | .unknown | .closed => s.commandTaken.beginOpen
  | .opening => s.commandTaken.movementCommanded
  | .opened => s.commandTaken.reportOpen
  | .closing => s.commandTaken.turnOpen
  | .paused => s.commandTaken.beginOpen
  | .halted => if fromEgress then s.commandTaken.egressAttempt else s

/-- A close command, by barrier state and plate condition (R164). -/
def State.closeCommand (s : State) : State :=
  match s.barrier.state with
  | .unknown =>
    if s.plateCondition then s.commandTaken.beginClose
    else (s.setBarrier { s.barrier with pendingClose := true }).reportReversed
  | .closed => s.commandTaken.reportClosed
  | .opened => if s.plateCondition then s.commandTaken.beginClose else s.reportReversed
  | .opening => if s.plateCondition then s.commandTaken.turnClose else s.reportReversed
  | .closing => s.commandTaken.movementCommanded
  | .paused => if s.plateCondition then s.commandTaken.beginClose else s.reportReversed
  | .halted => s

/-! ## Reversal (R166) -/

/-- The origin of the movement in progress; a COMMAND movement when there is none. -/
def Barrier.origin (b : Barrier) : Origin := (b.movement.map Movement.origin).getD .command

/-- A movement toward closed turned back from CLOSING (R166, steps 1 to 3): a COMMAND movement also clears the re-drive
position. -/
def Barrier.reversed (b : Barrier) : Barrier :=
  { b.turn .openEnd b.origin with reDrive := if b.origin = .command then none else b.reDrive }

/-- A paused movement toward closed turned back: the pause ends, DRIVE_OPEN at once (R166). -/
def Barrier.unpaused (b : Barrier) : Barrier :=
  { b.driveOpen b.origin with reDrive := if b.origin = .command then none else b.reDrive }

/-- The paused movement runs toward closed. -/
def Barrier.pausedClosing (b : Barrier) : Bool :=
  b.state == .paused && (b.movement.map Movement.direction) == some .closedEnd

/-- A plate leaves EMPTY or its fault flag is set (R166): CLOSING is turned back and a pause toward closed ends, each with a
reversal reported; any other state gives no drive. -/
def State.plateBroken (s : State) : State :=
  if s.barrier.state = .closing then (s.setBarrier s.barrier.reversed).reportReversed
  else if s.barrier.pausedClosing then (s.setBarrier s.barrier.unpaused).reportReversed
  else s

/-! ## Halting and fault modes (R168, R169, R171) -/

/-- The driver halted (R171, steps 1 to 3). -/
def Barrier.halted (b : Barrier) : Barrier :=
  { b with
    output := .off
    brakeTimer := .stopped
    travelTimer := .stopped
    pauseTimer := .stopped
    reDriveTimer := .stopped
    state := .halted
    latch := true
    movement := none
    retry := 0
    obstructions := 0
    reDrive := none
    pendingClose := false }

/-- The barrier halts with a cause, which the lane takes by R138 (R171). -/
def State.halt (s : State) (cause : FaultCause) : State := (s.setBarrier s.barrier.halted).reportFault cause

/-- A failed drive period under RETRY: paused, with the movement's direction kept (R168). -/
def Barrier.pause (b : Barrier) : Barrier :=
  { b with
    output := .off
    brakeTimer := .stopped
    travelTimer := .stopped
    retry := b.retry + 1
    state := .paused
    pauseTimer := .running Config.pauseMs }

/-- The movement in progress is the one attempt of R174. -/
def Barrier.isAttempt (b : Barrier) : Bool := b.movement.any Movement.attempt

/-- RETRY handles a failure by a pause: retries are left and the movement is not R174's one attempt (R168, R169, R174). -/
def State.mayRetry (s : State) : Bool :=
  s.config.faultMode == .retry && decide (s.barrier.retry < Config.retryLimit) && !s.barrier.isAttempt

/-- The direction of the movement in progress; toward open when there is none. -/
def Barrier.direction (b : Barrier) : EndId := (b.movement.map Movement.direction).getD .openEnd

/-- The fault mode on a stall (R168; R174 for the one attempt). -/
def State.stallByMode (s : State) : State :=
  match s.config.faultMode with
  | .latch => s.halt .stall
  | .retry => if s.mayRetry then s.setBarrier s.barrier.pause else s.halt .stall
  | .report => s.raise .barrierStall (endCode s.barrier.direction)
  | .ignore => s

/-- The position is taken as reached without its switch (R169). -/
def State.takePosition (s : State) (e : EndId) : State :=
  let t := s.reachEnd e
  (t.setBarrier { t.barrier with unconfirmed := true }).raise .positionUnconfirmed (endCode e)

/-- The fault mode on travel expiry (R169; R174 for the one attempt). -/
def State.travelByMode (s : State) : State :=
  match s.config.faultMode with
  | .latch => s.halt .travel
  | .retry => if s.mayRetry then s.setBarrier s.barrier.pause else s.halt .travel
  | .report | .ignore => s.takePosition s.barrier.direction

/-- An obstruction: a stall in CLOSING, by its count in the closing series (R167). -/
def State.obstruction (s : State) : State :=
  let count := min (s.barrier.obstructions + 1) 255
  let t := s.setBarrier { s.barrier with obstructions := count }
  if count ≤ 2 then t.plateBroken
  else if count = 3 then t.plateBroken.raise .obstructed s.barrier.origin.code
  else t.stallByMode

/-! ## Latch and egress (R162, R171, R174) -/

/-- CLEAR FAULT reaches the driver (R171): the latch clears; HALTED becomes UNKNOWN, and while the egress mark is set the
egress unit's open command is taken again. -/
def State.clearLatch (s : State) : State :=
  if s.barrier.latch then
    if s.barrier.state = .halted then
      let t := s.setBarrier { s.barrier with latch := false, state := .unknown, output := .off, pendingClose := false }
      if s.barrier.egressMark then t.openCommand true else t
    else s.setBarrier { s.barrier with latch := false }
  else s

/-- Entry to egress at the driver (R162, R166, R174): the egress mark is set, which turns CLOSING back with no report, and
the open command is taken after it. -/
def State.barrierEgress (s : State) : State :=
  let t := s.setBarrier { s.barrier with egressMark := true }
  let u := if t.barrier.state = .closing then t.setBarrier t.barrier.reversed else t
  u.openCommand true

/-- The driver at a lane restart: the reset values of R161, with the egress mark and the filtered switches kept (R175). -/
def Barrier.restarted (b : Barrier) : Barrier :=
  { Barrier.afterReset with egressMark := b.egressMark, openSwitch := b.openSwitch, closedSwitch := b.closedSwitch }

/-! ## Meanings -/

/-- The filtered switch of an end set to a level (R160). -/
def Barrier.setSwitch (b : Barrier) (e : EndId) (level : Bool) : Barrier :=
  match e with
  | .openEnd => { b with openSwitch := level }
  | .closedEnd => { b with closedSwitch := level }

/-- The driver takes an end switch that has become active: a conflict halts it (R172), a movement toward that end reaches it,
an unconfirmed position is confirmed (R165), and a flap that has returned by itself needs no re-drive (R173). -/
def State.switchActive (s : State) (e : EndId) : State :=
  if s.barrier.openSwitch ∧ s.barrier.closedSwitch then
    if s.barrier.state = .halted then s else s.halt .switch
  else if s.barrier.state = (if e = .openEnd then .opening else .closing) then s.reachEnd e
  else
    s.setBarrier
      { s.barrier with
        unconfirmed := if s.barrier.state = endState e then false else s.barrier.unconfirmed
        reDrive :=
          if s.barrier.reDrive = some e ∧ s.barrier.movement = none then none else s.barrier.reDrive }

/-- END_SWITCH_ACTIVE (R165, R172, R173). -/
def execEndSwitchActive (which : EndId) (s : State) : Host.Outcome State Fault Refusal :=
  .next <|
    if s.barrier.switch which then s
    else settleClear s ((s.setBarrier (s.barrier.setSwitch which true)).switchActive which)

/-- END_SWITCH_INACTIVE (R173): at a reached and confirmed position it is drift. -/
def execEndSwitchInactive (which : EndId) (s : State) : Host.Outcome State Fault Refusal :=
  .next <|
    if s.barrier.switch which then
      let t := s.setBarrier (s.barrier.setSwitch which false)
      if s.barrier.state = endState which ∧ !s.barrier.unconfirmed then
        (t.setBarrier { t.barrier with reDrive := some which }).raise .drift (endCode which)
      else t
    else s

/-- STALL (R160, R167, R168, R174): detected only while the bridge drives. -/
def execStall (s : State) : Host.Outcome State Fault Refusal :=
  .next <|
    if s.barrier.output = .driveOpen ∨ s.barrier.output = .driveClose then
      settleClear s (if s.barrier.state = .closing then s.obstruction else s.stallByMode)
    else s

/-- BRAKE_TIMER_EXPIRY (R159): the drive in the new direction begins. -/
def execBrakeTimerExpiry (s : State) : Host.Outcome State Fault Refusal :=
  .next <|
    if s.barrier.brakeTimer.isRunning ∧ s.barrier.output = .brake then
      s.setBarrier
        { s.barrier with
          brakeTimer := .stopped
          output := if s.barrier.state = .closing then .driveClose else .driveOpen }
    else s

/-- TRAVEL_TIMER_EXPIRY (R169). -/
def execTravelTimerExpiry (s : State) : Host.Outcome State Fault Refusal :=
  .next <|
    if s.barrier.travelTimer.isRunning then
      settleClear s (s.setBarrier { s.barrier with travelTimer := .stopped }).travelByMode
    else s

/-- The pause's end (R170): the end is reached without drive, the drive is tried again with the retry count kept, or a
movement toward closed over a plate is turned back as R166 states for PAUSED. -/
def State.endPause (s : State) : State :=
  let e := s.barrier.direction
  let retried (output : BarrierOutput) (state : BarrierState) : State :=
    s.setBarrier
      { s.barrier with
        output := output, state := state, pauseTimer := .stopped, travelTimer := .running Config.travelMs }
  if s.barrier.switch e then s.reachEnd e
  else if e = .openEnd then retried .driveOpen .opening
  else if s.plateCondition then retried .driveClose .closing
  else (s.setBarrier s.barrier.unpaused).reportReversed

/-- PAUSE_TIMER_EXPIRY (R170). -/
def execPauseTimerExpiry (s : State) : Host.Outcome State Fault Refusal :=
  .next <|
    if s.barrier.pauseTimer.isRunning ∧ s.barrier.state = .paused then
      settleClear s (s.setBarrier { s.barrier with pauseTimer := .stopped }).endPause
    else s

/-- PENDING_CLOSE_TAKEN (R164): the kept close begins its movement. -/
def execPendingCloseTaken (s : State) : Host.Outcome State Fault Refusal :=
  .next <|
    if s.barrier.pendingClose ∧ s.barrier.state = .unknown ∧ s.plateCondition then
      settleClear s s.commandTaken.beginClose
    else s

/-- RE_DRIVE_START (R173): a RE-DRIVE movement toward the re-drive position; the re-drive timer runs 1 s. -/
def execReDriveStart (s : State) : Host.Outcome State Fault Refusal :=
  .next <|
    if s.reDriveDue then
      let b := { s.barrier with reDriveTimer := .running Config.reDriveMs }
      settleClear s
        (s.setBarrier (if s.barrier.reDrive = some .openEnd then b.driveOpen .reDrive else b.driveClose .reDrive))
    else s

end Sys2Proof.Machine
end

