-- ==== Sys2Proof/Machine/Port.lean ====
section
/-! DEFINITION. The host port's message form and the one way a request is taken (R183, R184, R186): the reply is built in the
event of the request and the port enters WORK. -/

namespace Sys2Proof.Machine

/-- A reply: its code and payload (R186). -/
structure Reply where
  code : Nat
  payload : List Byte
  deriving DecidableEq, Repr

/-- The check byte: it brings the sum of all bytes of the message to 0 modulo 256 (R183). -/
def checkByte (bytes : List Byte) : Byte := 0 - bytes.foldl (· + ·) 0

/-- A message's bytes: kind, length, payload, check (R183). -/
def messageBytes (kind : Byte) (payload : List Byte) : List Byte :=
  let checked := kind :: byteOf payload.length :: payload
  checked ++ [checkByte checked]

/-- The bytes of a reply (R183, R186). -/
def Reply.message (r : Reply) : List Byte := messageBytes (byteOf r.code) r.payload

/-- Reasons of a REFUSED reply that belong to the port and to the requests other than PRESENT (R186). -/
inductive RequestReason where
  | role
  | state
  | noPlaces
  | locked
  | field
  | badCheck
  | unknown
  | length
  | inputActive
  deriving DecidableEq, Repr

/-- The codes of R186. -/
def RequestReason.code : RequestReason → Nat
  | .role => 16
  | .state => 17
  | .noPlaces => 18
  | .locked => 19
  | .field => 20
  | .badCheck => 21
  | .unknown => 22
  | .length => 23
  | .inputActive => 24

/-- OK with its payload (R186). -/
def Reply.ok (payload : List Byte := []) : Reply := ⟨1, payload⟩
/-- REFUSED with a reason and a detail byte (R186). -/
def Reply.refused (reason : RequestReason) (detail : Nat := 0) : Reply := ⟨2, [byteOf reason.code, byteOf detail]⟩
/-- REFUSED with one of the PRESENT reasons (R96, R186). -/
def Reply.refusedPresent (reason : Reason) : Reply := ⟨2, [byteOf reason.code, 0]⟩
/-- ACCEPTED with the presentation number (R186). -/
def Reply.accepted (number : Nat) : Reply := ⟨3, [byteOf number]⟩
/-- TOO_LATE (R186). -/
def Reply.tooLate : Reply := ⟨6, []⟩
/-- EMPTY (R186). -/
def Reply.empty : Reply := ⟨7, []⟩

/-- The roles a request belongs to (R184). -/
inductive RequestRole where
  | both
  | gate
  | vessel
  deriving DecidableEq, Repr

/-- The request belongs to the station's role (R184, check 5). -/
def State.hasRole (s : State) : RequestRole → Bool
  | .both => true
  | .gate => s.isGate
  | .vessel => s.isVessel

/-- The port can take a request: no exchange in progress, or the request is arriving (R183, R185). -/
def State.canTake (s : State) : Bool := s.port.state == .idle || s.port.state == .receive

/-- The reply is built and the port stays in WORK until it is ready to be read (R184). -/
def State.reply (s : State) (r : Reply) : State :=
  s.setPort { s.port with state := .work, request := [], reply := r.message, offered := false, shifted := 0 }

/-- A complete request that has passed the message checks 1 to 4 is taken as one event (R184): a request of the other role is
refused ROLE and changes nothing else; otherwise the owning block's rule gives effect and reply. While the port is in WORK or
REPLY no request is taken (R185). -/
def State.takeRequest (s : State) (role : RequestRole) (body : State → State × Reply) : State :=
  if s.canTake then
    if s.hasRole role then (body s).1.reply (body s).2 else s.reply (.refused .role)
  else s

end Sys2Proof.Machine
end

