-- ==== Sys2Proof/Machine/Lane.lean ====
section
/-! DEFINITION. The lane sequencer (chapter 7): authorisation and admission, refunds, the passage tracker and counting, hold,
recovery, restart and the vessel lane modes, with the meanings of the lane's commands and requests. -/

namespace Sys2Proof.Machine

/-! ## The gate's TALLY readiness (R61) -/

/-- The lane's finished report as the window unit uses it (R61, R125): in CLOSED with tally pending clear and the lane
finished, TALLY is queued and tally pending is set. -/
def State.tallyCheck (s : State) : State :=
  if s.isGate ∧ s.view.state = .closed ∧ !s.view.tallyPending ∧ s.laneFinished then
    (s.queueKind .tally).setView { s.view with tallyPending := true }
  else s

/-! ## Authorisation, admission, refund -/

/-- The configured length of the passage wait, ms (R120, R189). -/
def State.passageWaitMs (s : State) : Nat := s.config.passageWait * 1000

/-- The passage wait from its full length, suspended while the tracker is not NONE (R121, R123). -/
def State.fullPassageWait (s : State) : Timer :=
  if s.lane.tracker.state = .none then .running s.passageWaitMs else .suspended s.passageWaitMs

/-- The lane takes an admitted party (R121): remaining, passage wait, and from IDLE the open command. Remaining is set to the party
whatever it was (log entry 31). -/
def State.authorise (s : State) (party : Nat) : State :=
  let t := s.setLane { s.lane with remaining := party, passageWait := s.fullPassageWait }
  if s.lane.state = .idle then (t.setLane { t.lane with state := .opening }).openCommand false else t

/-- Admission decides a presentation (R94): the party is charged and its reservation ends (R81), the lane is authorised,
ADMITTED is raised, last decided takes the number and the record is removed; the change of held makes the background check. -/
def State.admitParty (s : State) (number party window : Nat) : State :=
  let t := (s.setAccount { s.account with charged := s.account.charged + party, reserved := 0 }).authorise party
  let u := t.raise .admitted number party window
  (u.setAdmission { u.admission with record := none, lastDecided := some number }).backgroundCheck

/-- A presentation enters AWAIT_LINK (R92): its party is reserved and TICKET is queued with its fixed contents. -/
def State.awaitLink (s : State) (p : Presentation) : State :=
  let t := s.setAccount { s.account with reserved := p.party }
  (t.setAdmission { t.admission with record := some { p with state := .awaitLink } }).setLink
    (t.link.queueTicket { window := p.window, key := p.key, cls := p.cls, party := p.party })

/-- Causes with which a claim ends and a demand reports (R71). -/
inductive ClaimCause where
  | satisfied
  | exhausted
  | expired
  deriving DecidableEq, Repr

/-- The report of a demand claim's end decides a presentation in AWAIT_PLACES (R91). -/
def State.claimReport (s : State) (cause : ClaimCause) : State :=
  match s.admission.record with
  | none => s
  | some p =>
    if p.state = .awaitPlaces then
      if p.party ≤ s.held then
        if (s.classRecord p.cls).holdTime = 0 then s.admitParty p.number p.party p.window else s.awaitLink p
      else s.refuse (if cause = .expired then .noGrant else .full) s.held
    else s

/-- A claim ends with a cause; a demand claim reports it (R71). -/
def State.endClaimWith (s : State) (cause : ClaimCause) : State :=
  if s.account.claim = .demand then s.dropClaim.claimReport cause else s.dropClaim

/-- Refund causes (R125). -/
inductive RefundCause where
  | wait
  | restart
  | egress
  | abandoned
  deriving DecidableEq, Repr

/-- The codes of R125. -/
def RefundCause.code : RefundCause → Nat
  | .wait => 0
  | .restart => 1
  | .egress => 2
  | .abandoned => 3

/-- The remaining authorised passages are refunded (R125): remaining 0, passage wait stopped, the gate's account told (R83),
PASSAGE EXPIRED, and the finished report. A refund of 0 is no refund. -/
def State.refund (s : State) (cause : RefundCause) : State :=
  if s.lane.remaining = 0 then s
  else
    let n := s.lane.remaining
    let t := s.setLane { s.lane with remaining := 0, passageWait := .stopped }
    let u := if s.isGate then t.refundAccount n else t
    (u.raise .passageExpired n cause.code).tallyCheck

/-! ## Passage tracker (R127 to R130) -/

/-- The entry plate of a direction (R128). -/
def Direction.entry : Direction → PlateId
  | .forward => .a
  | .reverse => .b

/-- The armed tracker takes a change of one plate's occupancy (R128 to R130); `multiple` says that the plate's new class is
MULTIPLE. The second component is the direction and MULTIPLE mark of a passage that completes. -/
def Tracker.step (t : Tracker) (p : PlateId) (occupied multiple : Bool) : Tracker × Option (Direction × Bool) :=
  let atEntry := decide (p = t.direction.entry)
  match t.state with
  | .none =>
    if occupied then
      ({ t with
          state := .entering
          direction := if p = .a then .forward else .reverse
          multiple := decide (p = .b) && multiple
          exited := false }, none)
    else (t, none)
  | .entering =>
    if atEntry then if occupied then (t, none) else ({ t with state := .none }, none)
    else if occupied then ({ t with state := .crossing }, none)
    else (t, none)
  | .crossing =>
    if occupied then (t, none)
    else if atEntry then ({ t with state := .leaving, exited := true }, none)
    else if t.exited then
      ({ t with state := .entering, multiple := false, exited := false }, some (t.direction, t.multiple))
    else ({ t with state := .entering }, none)
  | .leaving =>
    if atEntry then if occupied then ({ t with state := .crossing }, none) else (t, none)
    else if occupied then (t, none)
    else ({ t with state := .none }, some (t.direction, t.multiple))

/-- The tracker becomes unarmed (R127): NONE at once with both marks clear, a passage in progress dropped uncounted, a
suspended passage wait resumed; remaining and the tracker may so come to be 0 and NONE together (R125). -/
def State.unarmTracker (s : State) : State :=
  (s.setLane
    { s.lane with
      tracker := { s.lane.tracker with state := .none, armed := false, multiple := false, exited := false }
      passageWait := s.lane.passageWait.resume }).tallyCheck

/-! ## Counting (R131, R132, R142, R144) -/

/-- The units of one forward passage: paid, unpaid, and those of the unpaid counted as excess. -/
structure UnitCount where
  paid : Nat
  unpaid : Nat
  excess : Nat
  deriving DecidableEq, Repr

/-- One unit of a forward passage (R131; R82 for an unpaid unit with a window in view). -/
def State.countUnit (s : State) (k : UnitCount) : State × UnitCount :=
  if 0 < s.lane.remaining then
    (s.setLane { s.lane with remaining := s.lane.remaining - 1, paid := s.lane.paid + 1 }, { k with paid := k.paid + 1 })
  else if s.view.state ≠ .none ∧ s.lane.unpaid < Config.countTop then
    if 0 < s.freeCredits then
      ((s.setAccount { s.account with charged := s.account.charged + 1 }).setLane
        { s.lane with unpaid := s.lane.unpaid + 1 }, { k with unpaid := k.unpaid + 1 })
    else
      (s.setLane { s.lane with unpaid := s.lane.unpaid + 1, excess := s.lane.excess + 1 },
        { k with unpaid := k.unpaid + 1, excess := k.excess + 1 })
  else (s, { k with unpaid := k.unpaid + 1 })

/-- The units of a passage counted one after another (R131). -/
def State.countUnits : Nat → State → UnitCount → State × UnitCount
  | 0, s, k => (s, k)
  | n + 1, s, k => State.countUnits n (s.countUnit k).1 (s.countUnit k).2

/-- The kind of the event for unpaid units, by the lane state at completion (R132). -/
def State.unpaidKind (s : State) : EventKind :=
  match s.lane.state with
  | .idle | .held => .intrusion
  | .fault => if s.barrier.state = .closed then .intrusion else .tailgate
  | .opening | .opened | .closing | .egress | .flow => .tailgate

/-- A forward passage completes at a gate lane outside EGRESS (R131, R132): its units are counted, the passage wait restarts or
stops (R123), its events are raised, and a charged unit makes the background check. -/
def State.countForward (s : State) (multiple : Bool) : State :=
  let counted := State.countUnits (if multiple then 2 else 1) s ⟨0, 0, 0⟩
  let t := counted.1
  let k := counted.2
  let u := t.setLane
    { t.lane with passageWait := if t.lane.remaining = 0 then .stopped else t.fullPassageWait }
  let v := if 0 < k.paid then u.raise .passageCounted k.paid u.lane.remaining else u
  let w := if 0 < k.unpaid then v.raise s.unpaidKind k.unpaid k.excess s.view.number else v
  if w.account.charged = s.account.charged then w else w.backgroundCheck

/-- An alighting passage (R42, R144): one is taken from onboard, or COUNT UNDERFLOW at 0; ALIGHT COUNTED. -/
def State.alight (s : State) : State :=
  let t :=
    if s.vessel.onboard = 0 then s.raise .countUnderflow
    else s.setVessel { s.vessel with onboard := s.vessel.onboard - 1 }
  t.raise .alightCounted

/-- A passage completes (R131, R133, R142, R144). -/
def State.passageComplete (s : State) (direction : Direction) (multiple : Bool) : State :=
  if s.lane.state = .egress then
    s.setLane { s.lane with egressPassages := min (s.lane.egressPassages + 1) Config.countTop }
  else if s.isGate then
    match direction with
    | .forward => s.countForward multiple
    | .reverse => s.raise .wrongWay s.lane.state.code
  else
    match direction with
    | .forward => s.raise .wrongWay s.lane.state.code
    | .reverse => s.alight

/-! ## Class changes at the lane (R127 to R133, R144) -/

/-- The armed tracker takes a class change of plate p from class `old` (R127 to R131), with the passage wait suspended when it
leaves NONE and resumed when it returns there uncounted (R123, log entry 11). -/
def State.trackerChange (s : State) (p : PlateId) (old : PlateClass) : State :=
  let new := (s.converter.plate p).cls
  let before := s.lane.tracker
  if before.armed then
    let marked :=
      { before with multiple := before.multiple || (p == .b && new == .multiple && before.state != .none) }
    if (old == .empty) = (new == .empty) then s.setLane { s.lane with tracker := marked }
    else
      let stepped := marked.step p (new != .empty) (new == .multiple)
      let after := stepped.1
      let t := s.setLane
        { s.lane with
          tracker := after
          passageWait := if before.state = .none then s.lane.passageWait.suspend else s.lane.passageWait }
      let u := match stepped.2 with
        | none => t
        | some done => t.passageComplete done.1 done.2
      if after.state = .none then
        (u.setLane { u.lane with passageWait := u.lane.passageWait.resume }).tallyCheck
      else u
  else s

/-- A plate's loiter timer set (R133). -/
def Lane.setLoiter (l : Lane) (p : PlateId) (t : Timer) : Lane :=
  match p with
  | .a => { l with loiterA := t }
  | .b => { l with loiterB := t }

/-- A plate's loiter timer (R133). -/
def Lane.loiter (l : Lane) : PlateId → Timer
  | .a => l.loiterA
  | .b => l.loiterB

/-- The loiter timer on a change of occupancy (R133): it starts when the plate becomes occupied, with its fault flag clear and
the lane not in FLOW mode, and stops when the plate becomes empty. -/
def State.loiterChange (s : State) (p : PlateId) (old : PlateClass) : State :=
  let plate := s.converter.plate p
  if plate.cls = .empty then s.setLane (s.lane.setLoiter p .stopped)
  else if old = .empty ∧ !plate.fault ∧ !s.flowMode then
    s.setLane (s.lane.setLoiter p (.running Config.loiterMs))
  else s

/-- The vessel lane in ALIGHT opens for a person on plate B (R144). -/
def State.alightOpen (s : State) (p : PlateId) (old : PlateClass) : State :=
  if p = .b ∧ old = .empty ∧ (s.converter.plate p).cls ≠ .empty ∧ s.alightMode ∧ s.lane.state = .idle then
    (s.setLane { s.lane with state := .opening }).openCommand false
  else s

/-- A class change of plate p from `old` is delivered to the lane and to the barrier driver in one event (R151). Which of the two
takes it first no rule says; the model has the lane first (DESIGN CHOICE, log entry 5). This shows at an ALIGHT lane in IDLE
with the barrier CLOSING and its OPEN switch still active: the open command reaches that end at once (R163), where R166 would
brake first. -/
def State.deliverClass (s : State) (p : PlateId) (old : PlateClass) : State :=
  let t := ((s.alightOpen p old).loiterChange p old).trackerChange p old
  if old = .empty ∧ (s.converter.plate p).cls ≠ .empty then t.plateBroken else t

/-! ## Vessel lane modes (R143) -/

/-- Taking FLOW (R143): nothing when the mode is set already; in SETUP only the mode is stored. In FAULT with a recovery begun in
ALIGHT in progress, the open command of R140 is given here, so that R140 leads to FLOW: the model's choice, log entry 30. -/
def State.takeFlow (s : State) : State :=
  if s.lane.mode = .flow then s
  else if s.presence.state = .setup then s.setLane { s.lane with mode := .flow }
  else
    let t := s.unarmTracker
    let u := t.setLane
      { t.lane with mode := .flow, clearTimer := .stopped, loiterA := .stopped, loiterB := .stopped }
    match u.lane.state with
    | .idle | .opening | .opened | .closing => (u.setLane { u.lane with state := .flow }).openCommand false
    | .fault => if u.lane.recovery then u.openCommand false else u
    | .held | .egress | .flow => u

/-- Taking ALIGHT (R143): from FLOW the lane state becomes OPEN; in SETUP only the mode is stored. -/
def State.takeAlight (s : State) : State :=
  if s.lane.mode = .alight then s
  else
    s.setLane
      { s.lane with
        mode := .alight
        state := if s.presence.state ≠ .setup ∧ s.lane.state = .flow then .opened else s.lane.state }

/-! ## Clearing faults (R140, R156) -/

/-- CLEAR FAULT at a plate (R156): a set fault flag clears, with the bad count at 0. -/
def Plate.clearFault (p : Plate) : Plate := if p.fault then { p with fault := false, bad := 0 } else p

/-- CLEAR FAULT at the converter (R156). -/
def State.clearPlateFaults (s : State) : State :=
  s.setConverter
    { s.converter with plateA := s.converter.plateA.clearFault, plateB := s.converter.plateB.clearFault }

/-- CLEAR FAULT (R140): in FAULT recovery begins, at a vessel lane in FLOW mode with the barrier commanded open at once, but for
SETUP, where the lane issues no command (R120) and START gives it (R126, log entry 24); in EGRESS a recorded fault is cleared. -/
def State.clearFaults (s : State) : State × Reply :=
  if s.lane.state = .fault then
    let t := s.clearPlateFaults.clearLatch
    if s.lane.recovery then (t, .ok)
    else
      let u := t.setLane { t.lane with recovery := true }
      (if s.flowMode ∧ s.presence.state ≠ .setup then u.openCommand false else u, .ok)
  else if s.lane.state = .egress ∧ s.lane.faultCause ≠ none then
    let t := s.clearPlateFaults
    ((t.setLane { t.lane with faultCause := none }).clearLatch.raise .faultCleared, .ok)
  else (s, .refused .state)

/-! ## Lane restart (R141, R158, R175) -/

/-- A plate at a lane restart (R158): classified EMPTY anew, the last reading and result kept. -/
def Plate.restarted (p : Plate) (phase : Phase) : Plate :=
  { p with
    phase := phase, ticks := 0, cls := .empty, candidate := none, candidateRun := 0, bad := 0, fault := false, settle := 0 }

/-- The converter begins at ZERO on plate A, with plate B WAITING (R146, R158). -/
def Converter.restarted (c : Converter) : Converter :=
  { turn := some .a, plateA := c.plateA.restarted .zero, plateB := c.plateB.restarted .waiting }

/-- The lane state after a restart (R141, step 7). -/
def State.restartState (s : State) : LaneState :=
  if s.flowMode then .flow else if s.isGate ∧ s.lane.state = .held then .held else .idle

/-- LANE RESTART (R141). -/
def State.restartLane (s : State) : State × Reply :=
  if s.presence.state = .setup ∨ s.lane.state = .egress then (s, .refused .state)
  else
    let stopped := if s.isGate then s.stopPresentation .laneRestart else s
    let refunded := stopped.refund .restart
    let next := refunded.restartState
    let quiet := refunded.setLane
      { refunded.lane with
        tracker := { refunded.lane.tracker with state := .none, armed := false, multiple := false, exited := false }
        passageWait := .stopped
        clearTimer := .stopped
        loiterA := .stopped
        loiterB := .stopped
        faultCause := none
        recovery := false
        settleMark := true
        state := next }
    let blocks :=
      (quiet.setConverter quiet.converter.restarted).setBarrier quiet.barrier.restarted
    let cleared := if s.lane.state = .fault then blocks.raise .faultCleared else blocks
    let opened := if s.flowMode then cleared.openCommand false else cleared
    (opened.tallyCheck.holdCheck, .ok)

/-! ## Egress at the lane (R142, R178) -/

/-- Entry to egress at the lane (R142): remaining passages refunded, clear timer and passage wait stopped, a HELD lane's hold
kept pending (R178), a recovery mark cleared, state EGRESS. -/
def State.laneEgress (s : State) : State :=
  let t := s.refund .egress
  t.setLane
    { t.lane with
      holdPending := t.lane.holdPending || t.lane.state == .held
      recovery := false
      clearTimer := .stopped
      passageWait := .stopped
      state := .egress }

/-- The end of egress at the lane (R142): FAULT on a recorded cause, entered as R138 states but with no LANE FAULT; FLOW at a
vessel lane in FLOW mode; otherwise OPEN. -/
def State.laneEgressEnd (s : State) : State :=
  match s.lane.faultCause with
  | some _ =>
    let t := s.setLane { s.lane with state := .fault, clearTimer := .stopped }
    if s.isGate then (t.stopPresentation .laneUnavailable).enterReturn else t
  | none => s.setLane { s.lane with state := if s.flowMode then .flow else .opened }

/-! ## Meanings -/

/-- HOLD (R134). -/
def State.takeHold (s : State) : State × Reply :=
  if s.lane.state = .held then (s, .ok [1])
  else if s.lane.holdPending then (s, .ok [0])
  else
    let t := s.setLane { s.lane with holdPending := true }
    if s.lane.state = .idle ∧ s.admission.record = none then (t.holdCheck, .ok [1]) else (t, .ok [0])

/-- HOLD (R134). -/
def execHold (s : State) : Host.Outcome State Fault Refusal :=
  .next (settleClear s (s.takeRequest .gate State.takeHold))

/-- RELEASE (R136). -/
def State.takeRelease (s : State) : State × Reply :=
  if s.lane.state = .held then (s.setLane { s.lane with state := .idle }, .ok)
  else if s.lane.holdPending then (s.setLane { s.lane with holdPending := false }, .ok)
  else (s, .refused .state)

/-- RELEASE (R136). -/
def execRelease (s : State) : Host.Outcome State Fault Refusal :=
  .next (s.takeRequest .gate State.takeRelease)

/-- CLEAR_FAULT (R140). -/
def execClearFault (s : State) : Host.Outcome State Fault Refusal :=
  .next (settleClear s (s.takeRequest .both State.clearFaults))

/-- LANE_RESTART (R141). -/
def execLaneRestart (s : State) : Host.Outcome State Fault Refusal :=
  .next (settleClear s (s.takeRequest .both State.restartLane))

/-- SET LANE MODE (R143). -/
def State.takeLaneMode (mode : Byte) (s : State) : State × Reply :=
  if s.vessel.state ≠ .none then (s, .refused .state)
  else if 1 < mode.toNat then (s, .refused .field 1)
  else (if mode = 0 then s.takeFlow else s.takeAlight, .ok)

/-- SET_LANE_MODE (R143). -/
def execSetLaneMode (mode : Byte) (s : State) : Host.Outcome State Fault Refusal :=
  .next (settleClear s (s.takeRequest .vessel (State.takeLaneMode mode)))

/-- PASSAGE_WAIT_EXPIRY (R123). -/
def execPassageWaitExpiry (s : State) : Host.Outcome State Fault Refusal :=
  .next (if s.lane.passageWait.isRunning then settleClear s (s.refund .wait) else s)

/-- CLEAR_TIMER_EXPIRY (R124, R140): a lane in OPEN becomes CLOSING; both conditions command the barrier closed. -/
def execClearTimerExpiry (s : State) : Host.Outcome State Fault Refusal :=
  .next <|
    if s.lane.clearTimer.isRunning then
      let t := s.setLane
        { s.lane with
          clearTimer := .stopped
          state := if s.lane.state = .opened then .closing else s.lane.state }
      settleClear s t.closeCommand
    else s

/-- TRACKER_ARM (R126, R127): the tracker arms in NONE, and a lane in IDLE or HELD commands the barrier closed. -/
def execTrackerArm (s : State) : Host.Outcome State Fault Refusal :=
  .next <|
    if s.armDue then
      let t := s.setLane { s.lane with tracker := { s.lane.tracker with state := .none, armed := true } }
      settleClear s (if s.lane.state = .idle ∨ s.lane.state = .held then t.closeCommand else t)
    else s

/-- LOITER_TIMER_EXPIRY (R133): LOITER with the plate; the timer stays stopped. -/
def execLoiterTimerExpiry (plate : PlateId) (s : State) : Host.Outcome State Fault Refusal :=
  .next <|
    if (s.lane.loiter plate).isRunning then
      (s.setLane (s.lane.setLoiter plate .stopped)).raise .loiter (plateCode plate)
    else s

end Sys2Proof.Machine
end

