-- ==== Sys2Proof/Machine/Converter.lean ====
section
/-! DEFINITION. The tread plate converter (chapter 8): the conversion cycle, classification, debounce and settling, bad
conversions and plate faults, with the meanings of the four ends of a phase. -/

namespace Sys2Proof.Machine

/-! ## The conversion cycle (R146) -/

/-- The plate converted after this one. -/
def otherPlate : PlateId → PlateId
  | .a => .b
  | .b => .a

/-- The end of a conversion (R146): the plate waits, and the other plate's ZERO begins with its tick count at 0. -/
def Converter.endConversion (c : Converter) (p : PlateId) : Converter :=
  let d := c.setPlate p { c.plate p with phase := .waiting, ticks := 0 }
  let other := otherPlate p
  { d.setPlate other { d.plate other with phase := .zero, ticks := 0 } with turn := some other }

/-- The converter begins at START (R146): plate A in ZERO, plate B WAITING. -/
def Converter.begun (c : Converter) : Converter :=
  { turn := some .a
    plateA := { c.plateA with phase := .zero, ticks := 0 }
    plateB := { c.plateB with phase := .waiting, ticks := 0 } }

/-- The plate in turn, when it is in the given phase. -/
def Converter.inPhase (c : Converter) (phase : Phase) : Option PlateId :=
  c.turn.filter fun p => (c.plate p).phase == phase

/-! ## Classification (R150 to R152) -/

/-- The reading class of a reading at a current class (R150). -/
def ConfigRecord.readingClass (c : ConfigRecord) (current : PlateClass) (reading : Nat) : PlateClass :=
  let multipleFrom := if current = .multiple then c.multiple - c.hysteresis else c.multiple
  let occupiedFrom := if current = .empty then c.occupy else c.occupy - c.hysteresis
  if multipleFrom ≤ reading then .multiple else if occupiedFrom ≤ reading then .occupied else .empty

/-- The debounce takes a reading class (R151). -/
def Plate.debounce (p : Plate) (k : PlateClass) : Plate :=
  if k = p.cls then { p with candidate := none, candidateRun := 0 }
  else if p.candidate = some k then { p with cls := k, candidate := none, candidateRun := 0 }
  else { p with candidate := some k, candidateRun := 1 }

/-- The settle count takes a reading class while it is below 2 (R152). -/
def Plate.countSettle (p : Plate) (k : PlateClass) : Plate :=
  if p.settle < 2 then { p with settle := if k = .empty then p.settle + 1 else 0 } else p

/-- A GOOD conversion at the plate (R149, R153, R155): reading, result and bad count; with the fault flag clear also the
debounce and the settle count. -/
def Plate.takeGood (p : Plate) (c : ConfigRecord) (reading : Nat) : Plate :=
  let q := { p with reading := reading, result := .good, bad := 0 }
  if p.fault then q
  else
    let k := c.readingClass p.cls reading
    (q.debounce k).countSettle k

/-- Both plates have settled, so the settle mark clears (R126, R152). -/
def State.settleCheck (s : State) : State :=
  if s.converter.plateA.settle = 2 ∧ s.converter.plateB.settle = 2 then
    s.setLane { s.lane with settleMark := false }
  else s

/-- The reading of a crossing at tick r (R149). -/
def ConfigRecord.reading (c : ConfigRecord) (r : Nat) : Nat := r * 2 ^ c.resolution / 2

/-- A GOOD conversion of plate p (R149 to R152): the class change it makes is delivered, and after it the settled notice. -/
def State.goodConversion (s : State) (p : PlateId) (reading : Nat) : State :=
  let before := s.converter.plate p
  let after := before.takeGood s.config reading
  let t := s.setConverter ((s.converter.setPlate p after).endConversion p)
  (if after.cls = before.cls then t else t.deliverClass p before.cls).settleCheck

/-! ## Bad conversions (R153, R154) -/

/-- The kind argument of PLATE FAULT (R154). -/
def badCode : ConversionResult → Nat
  | .zeroFault => 2
  | _ => 1

/-- The lane's cause of a plate's fault (R137). -/
def plateCause : PlateId → FaultCause
  | .a => .plateA
  | .b => .plateB

/-- A plate faults (R154): the flag is set, which unarms the tracker (R127) and stops the plate's loiter timer (R133), the
class becomes OCCUPIED and is delivered if it was another, PLATE FAULT is raised and the lane is told. -/
def State.plateFault (s : State) (p : PlateId) (kind : ConversionResult) : State :=
  let before := s.converter.plate p
  let faulted := { before with fault := true, cls := .occupied, candidate := none, candidateRun := 0 }
  let t := (s.setConverter (s.converter.setPlate p faulted)).unarmTracker
  let u := t.setLane (t.lane.setLoiter p .stopped)
  let v := if before.cls = .occupied then u else u.deliverClass p before.cls
  (v.raise .plateFault (plateCode p) (badCode kind)).reportFault (plateCause p)

/-- A bad conversion of plate p (R153): result and bad count; the count reaching 3 with the fault flag clear is a fault. -/
def State.badConversion (s : State) (p : PlateId) (kind : ConversionResult) : State :=
  let before := s.converter.plate p
  let bad := min (before.bad + 1) 255
  let t := s.setConverter
    ((s.converter.setPlate p { before with result := kind, bad := bad }).endConversion p)
  if bad = 3 ∧ !before.fault then t.plateFault p kind else t

/-! ## Meanings -/

/-- ZERO_PHASE_END (R147): an offset within the zero limit is stored and INTEGRATE begins; beyond it the conversion ends with
ZERO FAULT. -/
def execZeroPhaseEnd (offset : Int) (s : State) : Host.Outcome State Fault Refusal :=
  .next <|
    match s.converter.inPhase .zero with
    | none => s
    | some p =>
      if -Config.zeroLimit ≤ offset ∧ offset ≤ Config.zeroLimit then
        s.setConverter
          (s.converter.setPlate p { s.converter.plate p with phase := .integrate, ticks := 0, offset := offset })
      else settleClear s (s.badConversion p .zeroFault)

/-- INTEGRATE_PHASE_END (R148): RUNDOWN begins with the tick count at 0. -/
def execIntegratePhaseEnd (s : State) : Host.Outcome State Fault Refusal :=
  .next <|
    match s.converter.inPhase .integrate with
    | none => s
    | some p => s.setConverter (s.converter.setPlate p { s.converter.plate p with phase := .rundown, ticks := 0 })

/-- RUNDOWN_CROSSING (R149): a crossing at tick r, below 2N, ends the conversion GOOD. -/
def execRundownCrossing (r : Nat) (s : State) : Host.Outcome State Fault Refusal :=
  .next <|
    match s.converter.inPhase .rundown with
    | none => s
    | some p => if r < 2 * s.ticksN then settleClear s (s.goodConversion p (s.config.reading r)) else s

/-- RUNDOWN_OVERRANGE (R149): no crossing by 2N ticks. -/
def execRundownOverrange (s : State) : Host.Outcome State Fault Refusal :=
  .next <|
    match s.converter.inPhase .rundown with
    | none => s
    | some p => settleClear s (s.badConversion p .overrange)

end Sys2Proof.Machine
end

