-- ==== Sys2Proof/Machine/Vessel.lean ====
section
/-! DEFINITION. The vessel station's half of the window unit and of the place account unit (chapters 3 and 4): opening,
closing and completing a window, tallies, claims, grants, repair and returns, with the meanings of the vessel's window
requests and of the tally timer's expiry. -/

namespace Sys2Proof.Machine

/-! ## Completion (R52, R53) -/

/-- The boarded count of the tally fields: the sum of paid + unpaid, taken up to 65535 (R53). -/
def Vessel.boarded (v : Vessel) : Nat :=
  min (v.gates.toList.map fun g => g.paid + g.unpaid).sum Config.countTop

/-- The excess count of the tally fields, taken up to 65535 (R53). -/
def Vessel.excessSum (v : Vessel) : Nat := min (v.gates.toList.map GateRow.excess).sum Config.countTop

/-- The row that the closed-window record keeps of a gate (R53). -/
def GateRow.closed (g : GateRow) : ClosedRow :=
  { paid := g.paid, unpaid := g.unpaid, excess := g.excess, final := g.final }

/-- The closed-window record that completion fills (R53). -/
def Vessel.closedRecord (v : Vessel) : ClosedWindow := { window := v.number, rows := v.gates.map GateRow.closed }

/-- OVER CAPACITY when onboard exceeds capacity (R43, R53, R55). -/
def State.overCapacityCheck (s : State) : State :=
  if s.config.capacity < s.vessel.onboard then s.raise .overCapacity s.vessel.onboard s.config.capacity else s

/-- Completion of a window (R53). -/
def State.completeWindow (s : State) (complete : Bool) : State :=
  let v := s.vessel
  let t := s.setVessel
    { v with
      onboard := min (v.onboard + v.boarded) Config.countTop
      record := some v.closedRecord
      tallyTimer := .stopped
      state := .none }
  ((t.raise .tally (v.number + if complete then 256 else 0) v.boarded v.excessSum).statusTrigger).overCapacityCheck

/-- A check of the completion condition in CLOSING (R52). -/
def State.completionCheck (s : State) : State :=
  if s.vessel.state = .closing ∧ s.tallyComplete then s.completeWindow true else s

/-! ## Closing (R48) -/

/-- Causes that close a window (R48). -/
inductive CloseCause where
  | request
  | isolation
  | egress
  deriving DecidableEq, Repr

/-- The codes of R48. -/
def CloseCause.code : CloseCause → Nat
  | .request => 0
  | .isolation => 1
  | .egress => 2

/-- A window in OPEN is closed (R48); in the other window states nothing changes. -/
def State.closeWindow (s : State) (cause : CloseCause) : State :=
  if s.vessel.state = .opened then
    let t := s.queueKind .close
    let u := (t.setVessel { t.vessel with state := .closing, tallyTimer := .running Config.tallyMs }).statusTrigger
    (u.raise .windowClosing u.vessel.number cause.code).completionCheck
  else s

/-! ## Requests -/

/-- The number of the window that follows: 255 is followed by 1 (R45). -/
def Vessel.nextNumber (v : Vessel) : Nat := if v.number = 255 then 1 else v.number + 1

/-- The window unit and the place account unit as OPEN WINDOW sets them (R45, steps 1 to 5; R73). -/
def Vessel.openedWith (v : Vessel) (offer : Nat) : Vessel :=
  { v with
    offer := offer
    number := v.nextNumber
    record := none
    gates := Vector.replicate 15 GateRow.afterReset
    remainder := offer
    lastServed := 0
    fullRaised := false }

/-- OPEN WINDOW (R44, R45). -/
def State.takeOpenWindow (s : State) : State × Reply :=
  if s.vessel.state ≠ .none ∨ s.presence.state ≠ .active ∨ s.inEgress then (s, .refused .state)
  else if s.config.capacity ≤ s.vessel.onboard then (s, .refused .noPlaces)
  else
    let offer := s.config.capacity - s.vessel.onboard
    let t := ((s.setVessel (s.vessel.openedWith offer)).takeFlow).queueKind .offer
    let u := (t.setVessel { t.vessel with state := .opened }).statusTrigger
    (u.raise .windowOpened u.vessel.number offer, .ok (byteOf u.vessel.number :: countBytes offer))

/-- OPEN_WINDOW (R44, R45). -/
def execOpenWindow (s : State) : Host.Outcome State Fault Refusal :=
  .next (settleClear s (s.takeRequest .vessel State.takeOpenWindow))

/-- CLOSE WINDOW (R47). -/
def State.takeCloseWindow (s : State) : State × Reply :=
  if s.vessel.state = .opened then (s.closeWindow .request, .ok [byteOf s.vessel.number]) else (s, .refused .state)

/-- CLOSE_WINDOW (R47). -/
def execCloseWindow (s : State) : Host.Outcome State Fault Refusal :=
  .next (s.takeRequest .vessel State.takeCloseWindow)

/-- SET ONBOARD (R43). -/
def State.takeSetOnboard (count : Word16) (s : State) : State × Reply :=
  if s.vessel.state = .none then
    ((s.setVessel { s.vessel with onboard := count.toNat }).overCapacityCheck, .ok)
  else (s, .refused .state)

/-- SET_ONBOARD (R43). -/
def execSetOnboard (count : Word16) (s : State) : Host.Outcome State Fault Refusal :=
  .next (s.takeRequest .vessel (State.takeSetOnboard count))

/-- TALLY_TIMER_EXPIRY (R52): the window in CLOSING completes with complete flag 0. -/
def execTallyTimerExpiry (s : State) : Host.Outcome State Fault Refusal :=
  .next (if s.vessel.tallyTimer.isRunning ∧ s.vessel.state = .closing then s.completeWindow false else s)

/-! ## Frames heard about the current window (R50, R51, R55, R77, R78, R80) -/

/-- A frame's window byte names the window that is OPEN or CLOSING. -/
def State.inWindow (s : State) (window : Byte) : Bool :=
  s.vessel.state != .none && s.vessel.number == window.toNat

/-- The tally fields take the larger of what they hold and what is reported (R50, R51). -/
def GateRow.takeCounts (g : GateRow) (r : GateStatus) : GateRow :=
  { g with paid := max g.paid r.paid, unpaid := max g.unpaid r.unpaid, excess := max g.excess r.excess }

/-- A report shows totals lower than the vessel station has already heard (R78). -/
def GateRow.lostBy (g : GateRow) (r : GateStatus) : Bool :=
  decide (r.returned < g.returned) || decide (r.paid < g.paid) || decide (r.unpaid < g.unpaid)

/-- The account-lost test (R78). -/
def State.accountLostTest (s : State) (g : Station) (r : GateStatus) : State :=
  let row := s.vessel.row g
  if !row.lost && row.lostBy r then
    (s.setVessel (s.vessel.setRow g { row with lost := true, due := false })).raise .accountLost s.vessel.number g.toNat
  else s

/-- GRANT is queued with gate g's grant-due mark set (R74, R76, R77). -/
def State.markDue (s : State) (g : Station) : State :=
  (s.setVessel (s.vessel.setRow g { s.vessel.row g with due := true })).queueKind .grant

/-- Repair of a lost GRANT (R77). -/
def State.repairGrant (s : State) (g : Station) (r : GateStatus) : State :=
  if !(s.vessel.row g).lost && decide (r.granted < (s.vessel.row g).granted) then s.markDue g else s

/-- A return is taken (R80): the reported total, limited to granted_s, above returned_s goes back to the remainder. -/
def Vessel.takeReturn (v : Vessel) (g : Station) (returned : Nat) : Vessel :=
  let row := v.row g
  let value := min returned row.granted
  if row.returned < value then
    { v.setRow g { row with returned := value } with remainder := v.remainder + (value - row.returned) }
  else v

/-- A gate's STATUS at the vessel station (R50, R77, R78, R80). -/
def State.gateStatusHeard (s : State) (g : Station) (window : Byte) (r : GateStatus) : State :=
  if s.inWindow window then
    let t := (s.accountLostTest g r).repairGrant g r
    let v := t.vessel.takeReturn g r.returned
    t.setVessel (v.setRow g ((v.row g).takeCounts r))
  else s

/-- The row of gate g in the closed-window record. -/
def ClosedWindow.row (c : ClosedWindow) (g : Station) : ClosedRow :=
  c.rows[g.toNat - 1]'(by have := g.isLt; omega)

/-- The row of gate g replaced in the closed-window record. -/
def ClosedWindow.setRow (c : ClosedWindow) (g : Station) (x : ClosedRow) : ClosedWindow :=
  { c with rows := c.rows.set (g.toNat - 1) x (by have := g.isLt; omega) }

/-- A late tally (R55). The new onboard is onboard + reported - recorded, kept in 0 to 65535. -/
def State.lateTally (s : State) (c : ClosedWindow) (g : Station) (r : GateStatus) : State :=
  let reported := r.paid + r.unpaid
  let recorded := (c.row g).paid + (c.row g).unpaid
  let row : ClosedRow := { paid := r.paid, unpaid := r.unpaid, excess := r.excess, final := true }
  let t := s.setVessel
    { s.vessel with
      onboard := min (s.vessel.onboard + reported - recorded) Config.countTop
      record := some (c.setRow g row) }
  (t.raise .lateTally c.window g.toNat reported).overCapacityCheck

/-- A gate's TALLY at the vessel station (R51, R55, R78, R80): for the current window the account's part, then the final
report with the completion check; in NONE a late tally for the recorded window. -/
def State.tallyHeard (s : State) (g : Station) (window : Byte) (r : GateStatus) : State :=
  if s.inWindow window then
    let t := s.accountLostTest g r
    let v := t.vessel.takeReturn g r.returned
    (t.setVessel (v.setRow g { (v.row g).takeCounts r with final := true })).completionCheck
  else if s.vessel.state = .none then
    match s.vessel.record with
    | some c => if c.window = window.toNat then s.lateTally c g r else s
    | none => s
  else s

/-! ## Claims and grants (R74 to R76) -/

/-- WINDOW FULL when the remainder is 0 for the first time in the window (R75). -/
def State.windowFullCheck (s : State) : State :=
  if s.vessel.remainder = 0 ∧ !s.vessel.fullRaised then
    (s.setVessel { s.vessel with fullRaised := true }).raise .windowFull s.vessel.number
  else s

/-- The grant to gate g of a claim for a total of `wanted` (R74, step 1). -/
def Vessel.grant (v : Vessel) (g : Station) (wanted : Nat) : Vessel :=
  let row := v.row g
  let given := min (wanted - row.granted) v.remainder
  { v.setRow g { row with granted := row.granted + given } with remainder := v.remainder - given }

/-- A CLAIM at the vessel station (R74, R75). -/
def State.claimHeard (s : State) (g : Station) (window : Byte) (wanted : Nat) : State :=
  if s.vessel.state = .opened ∧ s.inWindow window ∧ !(s.vessel.row g).lost then
    ((s.setVessel (s.vessel.grant g wanted)).markDue g).windowFullCheck
  else s

/-- Some grant-due mark is set (R76). -/
def Vessel.anyDue (v : Vessel) : Bool := v.gates.toList.any GateRow.due

/-- The stations a GRANT serves (R76): from the one after last served in rotating order, the first up to four whose
grant-due mark is set. -/
def Vessel.served (v : Vessel) : List Nat :=
  let order := (List.range 15).map fun i => (v.lastServed + i) % 15 + 1
  (order.filter fun g => (v.row (BitVec.ofNat 4 g)).due).take 4

/-- The pairs of a GRANT (R76). -/
def Vessel.grantPairs (v : Vessel) : List (Nat × Nat) :=
  v.served.map fun g => (g, (v.row (BitVec.ofNat 4 g)).granted)

/-- The grant-due marks of the stations named cleared (R76). -/
def Vessel.clearDue (v : Vessel) (named : List Nat) : Vessel :=
  { v with
    gates := Vector.ofFn fun i : Fin 15 =>
      if (i.val + 1) ∈ named then { v.gates[i] with due := false } else v.gates[i] }

/-- GRANT is queued again while a grant-due mark is set (R76), in every window state: the model's choice for NONE, where R85 says
that marks queue nothing (log entry 28). -/
def State.requeueGrant (s : State) : State := if s.vessel.anyDue then s.queueKind .grant else s

/-- An own GRANT completes (R76). -/
def State.grantCompleted (s : State) (f : Frame) : State :=
  if s.vessel.number = f.window.toNat then
    let named := (grantPairs f.body).map Prod.fst
    (s.setVessel { s.vessel.clearDue named with lastServed := named.getLast?.getD s.vessel.lastServed }).requeueGrant
  else s

end Sys2Proof.Machine
end

