-- ==== Sys2Proof/Machine/Window.lean ====
section
/-! DEFINITION. The gate station's half of the window unit (chapter 3.7 to 3.9) and the GRANT heard at a gate (R70): the
window view's transitions, orphaning and abandonment, the end of the gate's TALLY, with the meanings of the orphan timer's
and of the claim wait timer's expiry. -/

namespace Sys2Proof.Machine

/-! ## The view leaves OPEN (R58, R59, R72, R100) -/

/-- The admission unit and the place account unit are told that the view has left OPEN (R58, R72, R100). -/
def State.leftOpen (s : State) : State := (s.stopPresentation .windowClosed).endClaim

/-- The view becomes CLOSED(w) from OPEN or ORPHANED (R58, R60): from ORPHANED without the notice that orphaning gave. -/
def State.viewClose (s : State) : State :=
  let t := (s.setView { s.view with state := .closed, orphanTimer := .stopped }).raise .windowClosed s.view.number
  (if s.view.state = .opened then t.leftOpen else t).tallyCheck

/-- The view becomes ORPHANED(w) (R59). -/
def State.viewOrphan (s : State) : State :=
  if s.view.state = .opened then
    ((s.setView { s.view with state := .orphaned, orphanTimer := .running Config.orphanMs }).raise .windowOrphaned
      s.view.number).leftOpen
  else s

/-! ## The view opens or resumes (R57, R60, R67) -/

/-- The view becomes OPEN(w) from NONE (R57): the account is cleared, WINDOW OPENED is raised, and a STATUS is asked for
(R67). -/
def State.viewOpen (s : State) (w offer : Nat) : State :=
  ((s.setView { s.view with state := .opened, number := w }).clearAccount.raise .windowOpened w offer).statusTrigger

/-- The view resumes OPEN(w) from ORPHANED (R60). -/
def State.viewResume (s : State) : State :=
  (s.setView { s.view with state := .opened, orphanTimer := .stopped }).raise .windowResumed s.view.number

/-- A frame says that window w is open with this offer: an OFFER, or a vessel STATUS showing w OPEN (R57, R58, R60). -/
def State.openShown (s : State) (w offer : Nat) : State :=
  match s.view.state with
  | .none => if w = s.view.lastTallied then s else s.viewOpen w offer
  | .opened => if w = s.view.number then s else s.viewClose
  | .orphaned => if w = s.view.number then s.viewResume else s.viewClose
  | .closed => s

/-- An OFFER at a gate (R57, R58, R60). -/
def State.offerHeard (s : State) (window : Byte) (body : List Byte) : State := s.openShown window.toNat (wordAt body 0)

/-- A CLOSE at a gate (R58, R60). -/
def State.closeHeard (s : State) (window : Byte) : State :=
  if (s.view.state = .opened ∨ s.view.state = .orphaned) ∧ s.view.number = window.toNat then s.viewClose else s

/-- A vessel STATUS at a gate (R57, R58, R60). -/
def State.vesselStatusHeard (s : State) (window : Byte) (body : List Byte) : State :=
  if natAt body 0 = 1 then s.openShown window.toNat (wordAt body 2)
  else
    match s.view.state with
    | .none => if natAt body 0 = 0 then s.setView { s.view with lastTallied := 0 } else s
    | .opened | .orphaned => s.viewClose
    | .closed => s

/-! ## Ends of a window at the gate (R60, R62) -/

/-- The orphan limit (R60, R84): the remaining passages are refunded with cause ABANDONED, then the view becomes NONE, the
account is cleared and WINDOW ABANDONED is raised. -/
def State.abandon (s : State) : State :=
  let t := s.refund .abandoned
  ((t.setView { t.view with state := .none, number := 0, orphanTimer := .stopped }).raise .windowAbandoned
    s.view.number).clearAccount

/-- The end of the gate's TALLY (R62): completed, or removed after its third loss. -/
def State.windowEnded (s : State) (completed : Bool) : State :=
  let w := s.view.number
  let t := s.setView { s.view with tallyPending := false, lastTallied := w, state := .none, number := 0 }
  t.clearAccount.raise .windowEnded w (if completed then 1 else 0)

/-! ## The GRANT heard at a gate (R70, R71) -/

/-- The granted totals that a GRANT's pairs name for a station. -/
def grantedTo (own : Station) (body : List Byte) : List Nat :=
  ((grantPairs body).filter fun p => p.1 == own.toNat).map Prod.snd

/-- The end conditions of an outstanding claim on a GRANT that names this station (R71). -/
def State.grantEndsClaim (s : State) (remainder : Nat) : State :=
  if s.account.claim = .none then s
  else if s.account.wanted ≤ s.account.granted then s.endClaimWith .satisfied
  else if remainder = 0 then s.endClaimWith .exhausted
  else s

/-- A GRANT at a gate (R70). -/
def State.grantHeard (s : State) (window : Byte) (body : List Byte) : State :=
  if s.view.state ≠ .none ∧ s.view.number = window.toNat then
    let named := grantedTo s.presence.number body
    let remainder := wordAt body 0
    let granted := named.foldl max s.account.granted
    let rose := decide (s.account.granted < granted)
    let cleared := s.account.full && decide (0 < remainder)
    let t := s.setAccount { s.account with granted := granted, full := decide (remainder = 0) }
    let u := if named.isEmpty then t else t.grantEndsClaim remainder
    let v := if rose && u.inReturnState then u.returnFree else u
    if rose || cleared then v.backgroundCheck else v
  else s

/-! ## Meanings -/

/-- ORPHAN_TIMER_EXPIRY (R60). -/
def execOrphanTimerExpiry (s : State) : Host.Outcome State Fault Refusal :=
  .next <|
    if s.view.orphanTimer.isRunning ∧ s.view.state = .orphaned then settleClear s s.abandon else s

/-- CLAIM_WAIT_TIMER_EXPIRY (R71): an outstanding claim ends with cause EXPIRED. -/
def execClaimWaitTimerExpiry (s : State) : Host.Outcome State Fault Refusal :=
  .next <|
    if s.account.waitTimer.isRunning ∧ s.account.claim ≠ .none then settleClear s (s.endClaimWith .expired) else s

end Sys2Proof.Machine
end

