-- ==== Sys2Proof/Machine/Egress.lean ====
section
/-! DEFINITION. The egress unit (chapter 10): entering and leaving egress, the evacuation frames heard, the EGRESS END
request and the filtered EGRESS input. -/

namespace Sys2Proof.Machine

/-- Origin codes of EGRESS BEGAN (R178) and of QUERY (R188). -/
def EgressOrigin.code : EgressOrigin → Nat
  | .none => 0
  | .own => 1
  | .peer => 2

/-- Causes of leaving egress (R180). -/
inductive LeaveCause where
  | request
  | endHeard
  deriving DecidableEq, Repr

/-- The codes of R180. -/
def LeaveCause.code : LeaveCause → Nat
  | .request => 1
  | .endHeard => 2

/-- STATUS is queued at once at a gate that enters or leaves egress (R37). -/
def State.egressStatus (s : State) : State := if s.isGate then s.statusTrigger else s

/-- The gate's place account on entry to egress (R178). -/
def State.egressReturn (s : State) : State := if s.isGate then s.enterReturn else s

/-- Entry to egress (R178): the egress state with its origin, the end mark clear (R180), EGRESS BEGAN, then the lane, the
admission unit, the place account, the barrier driver and the vessel's window (log entry 5 for their order). -/
def State.enterEgress (s : State) (origin : EgressOrigin) (station : Station) : State :=
  let t := (s.setEgress { s.egress with state := .egress, origin := origin, endMark := false }).raise .egressBegan
    origin.code station.toNat
  let u := (t.laneEgress.abortPresentation).egressReturn
  ((u.barrierEgress).closeWindow .egress).egressStatus

/-- Entry with origin OWN also queues EGRESS at the head (R177). -/
def State.enterOwnEgress (s : State) : State := (s.enterEgress .own s.presence.number).queueEvacuation .egress

/-- Leaving egress (R180). -/
def State.leaveEgress (s : State) (cause : LeaveCause) (station : Station) : State :=
  let t := s.setEgress { s.egress with state := .normal, origin := .none }
  let u := (t.setBarrier { t.barrier with egressMark := false }).laneEgressEnd
  let v := u.raise .egressEnded u.lane.egressPassages cause.code station.toNat
  (v.setLane { v.lane with egressPassages := 0 }).egressStatus

/-! ## Frames heard (R177, R181) -/

/-- An EGRESS frame from a peer (R177). -/
def State.egressHeard (s : State) (sender : Station) : State :=
  if s.inEgress then s else s.enterEgress .peer sender

/-- A STATUS from a peer with its egress flag set (R177): not while the end mark is set. -/
def State.egressFlagHeard (s : State) (sender : Station) : State :=
  if s.inEgress ∨ s.egress.endMark then s else s.enterEgress .peer sender

/-- An EGRESS END from a peer (R181). -/
def State.egressEndHeard (s : State) (sender : Station) : State :=
  if s.inEgress then
    if s.egress.input then s.queueEvacuation .egress else s.leaveEgress .endHeard sender
  else s

/-! ## The request (R180) -/

/-- EGRESS END (R180). -/
def State.takeEgressEnd (s : State) : State × Reply :=
  if s.egress.input then (s, .refused .inputActive)
  else if s.inEgress then
    let t := (s.leaveEgress .request s.presence.number).queueEvacuation .egressEnd
    (t.setEgress { t.egress with endMark := true }, .ok)
  else (s, .refused .state)

/-- EGRESS_END (R180). -/
def execEgressEnd (s : State) : Host.Outcome State Fault Refusal :=
  .next (settleClear s (s.takeRequest .both State.takeEgressEnd))

/-! ## The filtered input (R176, R177, R179) -/

/-- The station acts on its filtered input becoming active (R177): in SETUP it only tracks it. -/
def State.inputRaised (s : State) : State :=
  if s.presence.state = .setup then s
  else if s.inEgress then
    if s.egress.origin = .peer then
      (s.setEgress { s.egress with origin := .own }).queueEvacuation .egress
    else s
  else s.enterOwnEgress

/-- EGRESS_INPUT_ACTIVE (R177). -/
def execEgressInputActive (s : State) : Host.Outcome State Fault Refusal :=
  .next <|
    if s.egress.input then s else settleClear s (s.setEgress { s.egress with input := true }).inputRaised

/-- EGRESS_INPUT_INACTIVE (R179): the level is tracked, and egress does not end. -/
def execEgressInputInactive (s : State) : Host.Outcome State Fault Refusal :=
  .next (s.setEgress { s.egress with input := false })

end Sys2Proof.Machine
end

