-- ==== Sys2Proof/Machine/Frames.lean ====
section
/-! DEFINITION. Frames as bits and bytes (R2 to R5): the CRC, zero insertion and the flags on the transmit side, the
deframer and the four frame checks on the receive side. -/

namespace Sys2Proof.Machine

/-! ## Bits -/

/-- The bits of a byte, least significant first (R2). -/
def byteBits (b : Byte) : List Bool := (List.range 8).map fun i => b.getLsbD i

/-- The bits of a list of bytes in the order sent (R2). -/
def bytesBits (bs : List Byte) : List Bool := (bs.map byteBits).flatten

/-- The byte of (at most) eight bits, least significant first. -/
def bitsByte (bits : List Bool) : Byte := BitVec.ofNat 8 (bits.foldr (fun b n => b.toNat + 2 * n) 0)

/-- The first `n` whole bytes of a list of bits. -/
def takeBytes : Nat → List Bool → List Byte
  | 0, _ => []
  | n + 1, bits => bitsByte (bits.take 8) :: takeBytes n (bits.drop 8)

/-! ## CRC (R4) -/

/-- One bit fed into the CRC register (R4, steps 1 and 2). -/
def crcBit (reg : Word16) (bit : Bool) : Word16 :=
  if reg.getLsbD 15 == bit then reg <<< 1 else (reg <<< 1) ^^^ 0x1021

/-- The CRC over header and body: preset to all ones, no final inversion (R4). -/
def crc (bytes : List Byte) : Word16 := (bytesBits bytes).foldl crcBit 0xFFFF

/-! ## Content (R4) -/

/-- Header of a frame: head, window and length bytes (R4). -/
def Frame.header (f : Frame) : List Byte := [f.kind.code ++ f.sender, f.window, byteOf f.body.length]

/-- Content of a frame: header, body, and the CRC high byte first (R4). -/
def Frame.content (f : Frame) : List Byte :=
  let checked := f.header ++ f.body
  checked ++ wordBytes (crc checked)

/-- Zero insertion (R2): a 0 after every five consecutive 1s; `ones` counts the 1s so far. -/
def stuff : Nat → List Bool → List Bool
  | _, [] => []
  | ones, b :: rest =>
    if b then
      if ones = 4 then true :: false :: stuff 0 rest else true :: stuff (ones + 1) rest
    else false :: stuff 0 rest

/-- A flag: 0, six 1s, 0 (R2). -/
def flagBits : List Bool := [false, true, true, true, true, true, true, false]

/-- The bits of a frame on the line: opening flag, content with inserted zeros, closing flag (R2). -/
def Frame.lineBits (f : Frame) : List Bool := flagBits ++ stuff 0 (bytesBits f.content) ++ flagBits

/-! ## Deframing (R3) -/

/-- The receiver between two bits: in HUNT, the 1s seen since the last 0 if there was one; in FRAME, the bits added so far
(youngest first), the count of consecutive 1s, and whether the last 0 was removed as an inserted bit. -/
inductive Deframer where
  | hunting (onesSinceZero : Option Nat)
  | framing (added : List Bool) (ones : Nat) (removed : Bool)
  deriving DecidableEq, Repr

/-- The content at a flag's last 0, youngest bit first: the bits added without the flag's own, which are its six 1s and, where
it was not removed as an inserted bit, its first 0. -/
def contentBeforeFlag (added : List Bool) (removed : Bool) : List Bool := added.drop (if removed then 6 else 7)

/-- One bit taken by the receiver (R3): the next receiver state, and the content when the bit is the last of a closing flag.
In FRAME the 0 and six 1s of a flag are first taken as content and dropped when the flag's last 0 shows them to be a flag.
Whether the last 0 of one flag may serve as the first 0 of the next R3 leaves open; the model lets it (DESIGN CHOICE, log entry
32): six 1s and a 0 just after an opening flag are a new opening flag, and after a closing flag HUNT begins with a 0 seen. -/
def Deframer.step (d : Deframer) (bit : Bool) : Deframer × Option (List Bool) :=
  match d with
  | .hunting seen =>
    if bit then (.hunting (seen.map (· + 1)), none)
    else if seen = some 6 then (.framing [] 0 false, none)
    else (.hunting (some 0), none)
  | .framing added ones removed =>
    if bit then
      if ones = 6 then (.hunting none, none) else (.framing (true :: added) (ones + 1) removed, none)
    else if ones = 5 then (.framing added 0 true, none)
    else if ones = 6 then
      match contentBeforeFlag added removed with
      | [] => (.framing [] 0 false, none)
      | content => (.hunting (some 0), some content.reverse)
    else (.framing (false :: added) 0 false, none)

/-- The first content that a closing flag ends in a sequence of bits, if any (R3). -/
def deframe : Deframer → List Bool → Option (List Bool)
  | _, [] => none
  | d, bit :: rest =>
    match d.step bit with
    | (_, some content) => some content
    | (d', none) => deframe d' rest

/-! ## Frame checks (R5) -/

/-- The bytes of a content of whole bytes. -/
def contentBytes (content : List Bool) : List Byte := takeBytes (content.length / 8) content

/-- R5, whole bytes: the content holds a whole number of bytes. -/
def wholeBytes (content : List Bool) : Bool := content.length % 8 == 0

/-- R5, content size: 5 to 29 bytes. -/
def sizeFits (bytes : List Byte) : Bool := decide (5 ≤ bytes.length) && decide (bytes.length ≤ 29)

/-- R5, length byte: equals the number of bytes between the header and the CRC. -/
def lengthFits (bytes : List Byte) : Bool := natAt bytes 2 + 5 == bytes.length

/-- R5, CRC: the CRC computed over header and body equals the received CRC. -/
def crcFits (bytes : List Byte) : Bool :=
  wordBytes (crc (bytes.take (bytes.length - 2))) == bytes.drop (bytes.length - 2)

/-- A content is that of a good frame when all four checks of R5 hold. -/
def isGoodContent (content : List Bool) : Bool :=
  wholeBytes content && sizeFits (contentBytes content) && lengthFits (contentBytes content) &&
    crcFits (contentBytes content)

/-! ## Self-test (R24) -/

/-- The TEST frame of a station: window byte 0, the fixed pattern (R10, R24). -/
def testFrame (own : Station) : Frame := { sender := own, kind := .test, window := 0, body := testPattern }

/-- Replies of SELFTEST (R24). -/
inductive SelftestResult where
  | pass
  | noFlag
  | crc
  | length
  deriving DecidableEq, Repr

/-- The result of a self-test that received these loopback bits, decided in R24's order. -/
def selftestResult (own : Station) (received : List Bool) : SelftestResult :=
  match deframe (.hunting none) (received.take Config.selftestBits) with
  | none => .noFlag
  | some content =>
    let bytes := contentBytes content
    if !(wholeBytes content && sizeFits bytes && lengthFits bytes && natAt bytes 2 == 16) then .length
    else if bytes ≠ (testFrame own).content then .crc
    else .pass

end Sys2Proof.Machine
end

