-- ==== Sys2Proof/Machine/Presentation.lean ====
section
/-! DEFINITION. The admission unit's requests PRESENT and CANCEL (R88 to R90, R98), and a peer's TICKET at the admission
unit (R97). -/

namespace Sys2Proof.Machine

/-! ## PRESENT (R88 to R90) -/

/-- The first failing check of a PRESENT (R88). -/
def State.presentCheck (s : State) (key : TicketKey) (cls party : Nat) : Option Reason :=
  if !s.mayTransmit then some .notStarted
  else if s.inEgress then some .egress
  else if s.lane.state = .held ∨ s.lane.state = .fault ∨ s.lane.holdPending then some .laneUnavailable
  else if s.lane.state ≠ .idle ∨ s.admission.record ≠ none then some .laneBusy
  else if !(decide (cls ≤ 7) && decide (1 ≤ party) && decide (party ≤ (s.classRecord cls).maxParty)) then some .cls
  else if s.view.state ≠ .opened then some .noWindow
  else if s.isListed key then some .passback
  else none

/-- A presentation enters AWAIT_PLACES (R90): the record is made and a demand given. -/
def State.awaitPlaces (s : State) (p : Presentation) : State :=
  (s.setAdmission { s.admission with record := some { p with state := .awaitPlaces } }).demand p.party

/-- An accepted presentation follows the first row of R89 that applies. -/
def State.acceptPresentation (s : State) (p : Presentation) : State :=
  if p.party ≤ s.held then
    if (s.classRecord p.cls).holdTime = 0 then s.admitParty p.number p.party p.window else s.awaitLink p
  else s.awaitPlaces p

/-- PRESENT at a gate station (R88, R89). -/
def State.takePresent (key : TicketKey) (cls party : Byte) (s : State) : State × Reply :=
  match s.presentCheck key cls.toNat party.toNat with
  | some reason => (s, .refusedPresent reason)
  | none =>
    let number := (s.admission.counter + 1) % 256
    let p : Presentation :=
      { number := number, key := key, cls := cls.toNat, party := party.toNat, window := s.view.number,
        state := .awaitLink, stopCause := none }
    ((s.setAdmission { s.admission with counter := number }).acceptPresentation p, .accepted number)

/-- PRESENT (R88). -/
def execPresent (key : TicketKey) (cls party : Byte) (s : State) : Host.Outcome State Fault Refusal :=
  .next (settleClear s (s.takeRequest .gate (State.takePresent key cls party)))

/-! ## CANCEL (R98) -/

/-- CANCEL with no record of this number: TOO_LATE for the number last decided, else NONE (R98, R186). -/
def State.cancelAbsent (s : State) (number : Nat) : Reply :=
  if s.admission.lastDecided = some number then .tooLate else ⟨5, []⟩

/-- CANCEL at a gate station (R98). -/
def State.takeCancel (number : Byte) (s : State) : State × Reply :=
  match s.admission.record with
  | none => (s, s.cancelAbsent number.toNat)
  | some p =>
    if p.number = number.toNat then
      if p.state = .awaitLink ∧ s.ticketStarted then (s, .tooLate) else (s.refuse .cancelled 0, .ok)
    else (s, s.cancelAbsent number.toNat)

/-- CANCEL (R98). -/
def execCancel (number : Byte) (s : State) : Host.Outcome State Fault Refusal :=
  .next (settleClear s (s.takeRequest .gate (State.takeCancel number)))

/-! ## A peer's TICKET (R97) -/

/-- A peer's TICKET at the admission unit (R97): a pending presentation with the same key whose TICKET has not started is
refused CLAIMED_ELSEWHERE with the sender's number. -/
def State.peerTicket (s : State) (sender : Station) (key : TicketKey) : State :=
  match s.admission.record with
  | none => s
  | some p =>
    if p.key = key ∧ ¬(p.state = .awaitLink ∧ s.ticketStarted) then s.refuse .claimedElsewhere sender.toNat else s

end Sys2Proof.Machine
end

