-- ==== Sys2Proof/Machine/RecentList.lean ====
section
/-! DEFINITION. The recent admission list (chapter 6): offers, duplicates, eviction, expiry, and the LOOKUP request. -/

namespace Sys2Proof.Machine

/-! ## Offers (R109 to R112) -/

/-- The high 16 bits of a ticket key (R111). -/
def keyHigh (k : TicketKey) : Nat := (k.extractLsb' 16 16).toNat
/-- The low 16 bits of a ticket key (R111). -/
def keyLow (k : TicketKey) : Nat := (k.extractLsb' 0 16).toNat

/-- The listed entry of a key. -/
def RecentList.find (l : RecentList) (key : TicketKey) : Option ListEntry := l.entries.find? fun e => e.key == key

/-- An insertion, with the eviction of the oldest entry when the list is full (R110, R112). -/
def State.insertEntry (s : State) (e : ListEntry) : State :=
  if s.list.entries.length < Config.recentListSize then
    s.setList { s.list with entries := s.list.entries ++ [e] }
  else
    match s.list.entries with
    | [] => s.setList { s.list with entries := [e] }
    | oldest :: rest =>
      (s.setList { s.list with entries := rest ++ [e] }).raise .listEviction (keyHigh oldest.key) (keyLow oldest.key)
        oldest.hold

/-- A ticket offered to the list (R110, R111). -/
def State.offerTicket (s : State) (key : TicketKey) (cls party : Nat) (station : Station) (window : Nat)
    (origin : ListOrigin) : State :=
  match s.list.find key with
  | some e => s.raise .duplicateAdmission (keyHigh key) (keyLow key) (e.station.toNat * 16 + station.toNat)
  | none =>
    let minutes := (s.classRecord cls).holdTime
    if minutes = 0 then s
    else
      s.insertEntry
        { key := key, cls := cls, party := party, station := station, window := window, hold := minutes * 60,
          origin := origin }

/-! ## Expiry (R113) -/

/-- One second passes for every entry; those that reach 0 leave (R113). -/
def secondPasses (entries : List ListEntry) : List ListEntry :=
  (entries.map fun e => { e with hold := e.hold - 1 }).filter fun e => e.hold != 0

/-- LIST_SECOND_TIMER_EXPIRY (R113): the timer repeats with a period of 1 s. -/
def execListSecondTimerExpiry (s : State) : Host.Outcome State Fault Refusal :=
  .next <|
    if s.list.secondTimer.isRunning then
      s.setList { entries := secondPasses s.list.entries, secondTimer := .running Config.listSecondMs }
    else s

/-! ## LOOKUP (R116, R186) -/

/-- Origin as R186 codes it. -/
def ListOrigin.code : ListOrigin → Nat
  | .own => 0
  | .peer => 1

/-- The FOUND payload of an entry at a position, with the entry count (R186). -/
def ListEntry.foundPayload (e : ListEntry) (position count : Nat) : List Byte :=
  keyBytes e.key ++ [byteOf e.cls, byteOf e.party, byteOf e.station.toNat, byteOf e.window] ++ countBytes e.hold
    ++ [byteOf e.origin.code, byteOf position, byteOf count]

/-- LOOKUP (R116). -/
def State.takeLookup (key : TicketKey) (s : State) : State × Reply :=
  let count := s.list.entries.length
  match s.list.find key with
  | some e => (s, ⟨4, e.foundPayload (s.list.entries.findIdx (fun x => x.key == key) + 1) count⟩)
  | none => (s, ⟨5, [byteOf count]⟩)

/-- LOOKUP (R116). -/
def execLookup (key : TicketKey) (s : State) : Host.Outcome State Fault Refusal :=
  .next (s.takeRequest .both (State.takeLookup key))

end Sys2Proof.Machine
end

