-- ==== Sys2Proof/Machine/Presence.lean ====
section
/-! DEFINITION. The presence unit (chapter 2) and the delivery of good frames (R6): what every good frame does at its hearer,
the meaning of each frame kind heard, and the presence unit's timers. -/

namespace Sys2Proof.Machine

/-! ## A good frame heard (R6, R12, R29, R31, R32, R34) -/

/-- The station state's answer to a good frame reported from another station: LISTEN ends (R29), the isolation timer restarts
(R31), the isolation ends (R32). -/
def State.heardAtStation (s : State) (sender : Station) : State :=
  let p := s.presence
  match p.state with
  | .setup => s
  | .listen =>
    (s.setPresence
      { p with
        state := .active
        listenTimer := .stopped
        isolationTimer := .running Config.isolationMs
        rollTimer := .running Config.rollMs }).queueKind .status
  | .active => s.setPresence { p with isolationTimer := .running Config.isolationMs }
  | .isolated =>
    (s.setPresence { p with state := .active, isolationTimer := .running Config.isolationMs }).raise .linkRestored
      sender.toNat

/-- The peer table's answer (R34): the silence timer restarts, and PEER JOINED is raised for a peer not PRESENT. -/
def State.peerHeard (s : State) (sender : Station) : State :=
  let e := s.presence.peer sender
  let t := s.setPresence
    (s.presence.setPeer sender { e with presence := .present, silence := .running Config.silenceMs })
  if e.presence = .present then t else t.raise .peerJoined sender.toNat

/-- The receiver after a frame has ended: HUNT with an empty buffer (R3). -/
def Link.hunting (l : Link) : Link := { l with hunt := .hunt, buffer := [], ones := 0 }

/-- The link controller's part of a good frame: last sender is set and the receiver returns to HUNT (R3, R12). -/
def State.frameTaken (s : State) (sender : Station) : State :=
  s.setLink { s.link.hunting with lastSender := sender }

/-- A good frame is reported to the presence unit: not in SETUP, and not with the hearer's own number (R6). -/
def State.isReported (s : State) (sender : Station) : Bool :=
  s.presence.state != .setup && sender != s.presence.number

/-- A good frame heard (R6). During SELFTEST the receiver is off the line and the frame is lost (R24); otherwise it sets last
sender, is reported to the presence unit, and what passes its format check is delivered. -/
def State.heard (s : State) (sender : Station) (passes : Bool) (deliver : State → State) : State :=
  if s.link.loopback then s
  else
    let t := s.frameTaken sender
    if s.isReported sender then
      let u := (t.heardAtStation sender).peerHeard sender
      if passes then deliver u else u
    else t

/-! ## Delivery by kind -/

/-- A STATUS recorded in the peer table (R40, steps 1 and 2). -/
def State.recordStatus (s : State) (sender : Station) (window : Byte) (body : List Byte) : State :=
  s.setPresence
    (s.presence.setPeer sender
      { s.presence.peer sender with record := some ⟨window, body⟩, egress := statusEgressFlag body })

/-- A STATUS handed to its blocks by role (R40). R6 states no order among the blocks of one frame; the model's is window unit,
place account unit, egress unit (DESIGN CHOICE, log entry 5). So the view change of R58 refuses a pending presentation with
WINDOW_CLOSED and may bring a pending hold into effect before the egress flag of the same STATUS is taken (R101), and at the
vessel station the counts may complete a window before it (R50). -/
def State.statusHeard (sender : Station) (window : Byte) (body : List Byte) (s : State) : State :=
  let t := s.recordStatus sender window body
  let u :=
    if s.isVessel then t.gateStatusHeard sender window (GateStatus.ofBody body)
    else if sender = 0 then t.vesselStatusHeard window body
    else t
  if statusEgressFlag body then u.egressFlagHeard sender else u

/-- A TICKET at its hearers (R97, R109): the admission unit first, then the list, an order that R109 and R118 leave open (log
entry 5). -/
def State.ticketHeard (sender : Station) (window : Byte) (body : List Byte) (s : State) : State :=
  (s.peerTicket sender (keyAt body 0)).offerTicket (keyAt body 0) (natAt body 4) (natAt body 5) sender window.toNat .peer

/-! ## Meanings of the frames -/

/-- STATUS_FRAME (R40). -/
def execStatusFrame (sender : Station) (window : Byte) (body : List Byte) (s : State) : Host.Outcome State Fault Refusal :=
  .next <| settleClear s <|
    s.heard sender (formatCheck .status sender window body) (State.statusHeard sender window body)

/-- OFFER_FRAME (R57, R58, R60): used at gates. -/
def execOfferFrame (sender : Station) (window : Byte) (body : List Byte) (s : State) : Host.Outcome State Fault Refusal :=
  .next <| settleClear s <|
    s.heard sender (formatCheck .offer sender window body) fun t =>
      if t.isGate then t.offerHeard window body else t

/-- CLOSE_FRAME (R58, R60): used at gates. -/
def execCloseFrame (sender : Station) (window : Byte) (body : List Byte) (s : State) : Host.Outcome State Fault Refusal :=
  .next <| settleClear s <|
    s.heard sender (formatCheck .close sender window body) fun t =>
      if t.isGate then t.closeHeard window else t

/-- CLAIM_FRAME (R74): used at the vessel station (R6). -/
def execClaimFrame (sender : Station) (window : Byte) (body : List Byte) (s : State) : Host.Outcome State Fault Refusal :=
  .next <|
    s.heard sender (formatCheck .claim sender window body) fun t =>
      if t.isVessel then t.claimHeard sender window (wordAt body 0) else t

/-- GRANT_FRAME (R70): used at gates. -/
def execGrantFrame (sender : Station) (window : Byte) (body : List Byte) (s : State) : Host.Outcome State Fault Refusal :=
  .next <| settleClear s <|
    s.heard sender (formatCheck .grant sender window body) fun t =>
      if t.isGate then t.grantHeard window body else t

/-- TICKET_FRAME (R97, R109). -/
def execTicketFrame (sender : Station) (window : Byte) (body : List Byte) (s : State) : Host.Outcome State Fault Refusal :=
  .next <| settleClear s <|
    s.heard sender (formatCheck .ticket sender window body) (State.ticketHeard sender window body)

/-- TALLY_FRAME (R51, R55): used at the vessel station (R6). -/
def execTallyFrame (sender : Station) (window : Byte) (body : List Byte) (s : State) : Host.Outcome State Fault Refusal :=
  .next <|
    s.heard sender (formatCheck .tally sender window body) fun t =>
      if t.isVessel then t.tallyHeard sender window (GateStatus.ofTally body) else t

/-- EGRESS_FRAME (R177). -/
def execEgressFrame (sender : Station) (window : Byte) (body : List Byte) (s : State) : Host.Outcome State Fault Refusal :=
  .next <| settleClear s <|
    s.heard sender (formatCheck .egress sender window body) fun t => t.egressHeard sender

/-- EGRESS_END_FRAME (R181). -/
def execEgressEndFrame (sender : Station) (window : Byte) (body : List Byte) (s : State) :
    Host.Outcome State Fault Refusal :=
  .next <| settleClear s <|
    s.heard sender (formatCheck .egressEnd sender window body) fun t => t.egressEndHeard sender

/-- UNKNOWN_KIND_FRAME (R6): last sender and the presence unit only; a frame that is not of unknown kind is not this event. -/
def execUnknownKindFrame (sender kind : BitVec 4) (window : Byte) (body : List Byte) (s : State) :
    Host.Outcome State Fault Refusal :=
  .next (if isUnknownKind sender kind window body then s.heard sender false id else s)

/-! ## Meanings of the presence timers -/

/-- LISTEN_TIMER_EXPIRY (R30). -/
def execListenTimerExpiry (s : State) : Host.Outcome State Fault Refusal :=
  .next <|
    if s.presence.listenTimer.isRunning ∧ s.presence.state = .listen then
      (((s.setLink { s.link with lastSender := 15 }).setPresence
          { s.presence with
            state := .isolated
            listenTimer := .stopped
            rollTimer := .running Config.rollMs }).raise .isolated).queueKind .status
    else s

/-- ISOLATION_TIMER_EXPIRY (R31): the vessel station also closes a window that is OPEN (R48). -/
def execIsolationTimerExpiry (s : State) : Host.Outcome State Fault Refusal :=
  .next <|
    if s.presence.isolationTimer.isRunning ∧ s.presence.state = .active then
      ((s.setPresence { s.presence with state := .isolated, isolationTimer := .stopped }).raise .isolated).closeWindow
        .isolation
    else s

/-- ROLL_TIMER_EXPIRY (R36): a STATUS, the timer again, and a gate's background claim check (R67). -/
def execRollTimerExpiry (s : State) : Host.Outcome State Fault Refusal :=
  .next <|
    if s.presence.rollTimer.isRunning then
      ((s.setPresence { s.presence with rollTimer := .running Config.rollMs }).queueKind .status).backgroundCheck
    else s

/-- SILENCE_TIMER_EXPIRY (R35): the peer becomes ABSENT; at a gate the vessel station's absence orphans an OPEN view (R59). -/
def execSilenceTimerExpiry (peer : Station) (s : State) : Host.Outcome State Fault Refusal :=
  .next <|
    if (s.presence.peer peer).silence.isRunning then
      let t := (s.setPresence
        (s.presence.setPeer peer { presence := .absent, silence := .stopped, record := none, egress := false })).raise
          .peerLost peer.toNat
      settleClear s (if s.isGate ∧ peer = 0 then t.viewOrphan else t)
    else s

end Sys2Proof.Machine
end

