-- ==== Sys2Proof/Machine/LinkUnit.lean ====
section
/-! DEFINITION. The link controller's own events (chapter 1): line idle and busy, flags, aborts and bad frames, the start of a
transmission with the content builder, its loss or completion, and the self-test. -/

namespace Sys2Proof.Machine

/-! ## Line and receiver (R3, R5, R11) -/

/-- LINE_IDLE (R11): the idle timer starts from zero. -/
def execLineIdle (s : State) : Host.Outcome State Fault Refusal :=
  .next (if s.link.lineIdle then s else s.setLink { s.link with lineIdle := true, idleTimer := 0 })

/-- LINE_BUSY (R11): the idle timer stops and is cleared. -/
def execLineBusy (s : State) : Host.Outcome State Fault Refusal :=
  .next (s.setLink { s.link with lineIdle := false, idleTimer := 0 })

/-- OPENING_FLAG_FOUND (R3): HUNT becomes FRAME with an empty buffer and a ones count of zero. -/
def execOpeningFlagFound (s : State) : Host.Outcome State Fault Refusal :=
  .next <|
    if s.link.hunt = .hunt ∧ !s.link.loopback then
      s.setLink { s.link with hunt := .frame, buffer := [], ones := 0 }
    else s

/-- FRAME_ABORT_HEARD (R3): the content is discarded and the receiver returns to HUNT. -/
def execFrameAbortHeard (s : State) : Host.Outcome State Fault Refusal :=
  .next (if s.link.loopback then s else s.setLink s.link.hunting)

/-- BAD_FRAME (R5): a content that fails a check is discarded and reported to no block. A flag with no content bits ends no frame
(R3), so that empty content is no bad frame and changes nothing (log entry 1). -/
def execBadFrame (content : List Bool) (s : State) : Host.Outcome State Fault Refusal :=
  .next (if s.link.loopback ∨ content = [] ∨ isGoodContent content then s else s.setLink s.link.hunting)

/-! ## Content builder (R21, R38, R39, R46, R49, R62, R69, R76) -/

/-- The window byte and body of a gate's STATUS (R8, R38). -/
def State.gateStatus (s : State) : Byte × List Byte :=
  let flags := (if s.inEgress then 1 else 0) + if s.view.state = .opened then 2 else 0
  (byteOf s.view.number,
    [byteOf s.lane.state.code, byteOf flags] ++ countBytes s.account.granted ++ countBytes s.account.returned
      ++ countBytes s.lane.paid ++ countBytes s.lane.unpaid ++ countBytes s.lane.excess ++ countBytes s.held)

/-- Window state codes (R8). -/
def WindowState.code : WindowState → Nat
  | .none => 0
  | .opened => 1
  | .closing => 2

/-- Lane mode codes (R8, R188). -/
def LaneMode.code : LaneMode → Nat
  | .flow => 0
  | .alight => 1

/-- The window byte and body of the vessel's STATUS (R8, R39): window number, offer and remainder read 0 in NONE. -/
def State.vesselStatus (s : State) : Byte × List Byte :=
  let v := s.vessel
  let shown (n : Nat) : Nat := if v.state = .none then 0 else n
  (byteOf (shown v.number),
    [byteOf v.state.code, flagByte s.inEgress] ++ countBytes (shown v.offer) ++ countBytes (shown v.remainder)
      ++ countBytes v.onboard ++ [byteOf s.lane.mode.code])

/-- The body of a TALLY (R9, R62). -/
def State.tallyBody (s : State) : List Byte :=
  countBytes s.account.granted ++ countBytes s.account.returned ++ countBytes s.lane.paid ++ countBytes s.lane.unpaid
    ++ countBytes s.lane.excess

/-- The window byte and body that an entry's owner gives at its start, or none when it has nothing to send (R21). -/
def State.contents (s : State) (e : TxEntry) : Option (Byte × List Byte) :=
  match e.kind with
  | .status => some (if s.isVessel then s.vesselStatus else s.gateStatus)
  | .offer => if s.vessel.state = .opened then some (byteOf s.vessel.number, countBytes s.vessel.offer) else none
  | .close => if s.vessel.state = .opened then none else some (byteOf s.vessel.number, [])
  | .claim =>
    if s.account.claim ≠ .none ∧ s.view.state = .opened then
      some (byteOf s.view.number, countBytes s.account.wanted)
    else none
  | .grant =>
    if s.vessel.state ≠ .none ∧ s.vessel.anyDue then
      some (byteOf s.vessel.number, grantBody s.vessel.remainder s.vessel.grantPairs)
    else none
  | .ticket => e.ticket.map fun t => (byteOf t.window, t.body)
  | .tally => some (byteOf s.view.number, s.tallyBody)
  | .egress | .egressEnd => some (0, [])
  | .test => none

/-- The frame an entry is built as (R4, R21). -/
def State.build (s : State) (e : TxEntry) : Option Frame :=
  (s.contents e).map fun c => { sender := s.presence.number, kind := e.kind, window := c.1, body := c.2 }

/-! ## Start (R13, R14, R21) -/

/-- An idle timer reading, in slots, is a start instant of the station that lies ahead (R13). -/
def State.isStartInstant (s : State) (slots : Nat) : Bool :=
  decide (s.link.idleTimer ≤ slots) && slots % 16 == s.slotPosition

/-- The conditions of a start besides the entry (R14). -/
def State.canStart (s : State) (slots : Nat) : Bool :=
  s.mayTransmit && !s.link.loopback && s.link.lineIdle && s.isStartInstant slots

/-- A WAITING head entry begins, or is removed when its owner has nothing to send (R14, R21). -/
def State.startHead (s : State) (e : TxEntry) (rest : List TxEntry) (slots : Nat) : State :=
  match s.build e with
  | some f =>
    s.setLink
      { s.link with
        queue := { e with sending := true } :: rest
        txFrame := some f
        lineIdle := false
        idleTimer := 0 }
  | none => s.setLink { s.link with queue := rest, idleTimer := slots + 1 }

/-- TRANSMIT_START (R14). -/
def execTransmitStart (slots : Nat) (s : State) : Host.Outcome State Fault Refusal :=
  .next <|
    match s.link.queue with
    | [] => s
    | e :: rest => if s.canStart slots ∧ !e.sending then s.startHead e rest slots else s

/-! ## Ends of a transmission (R15 to R20) -/

/-- The kind in the deferred egress slot is taken as a new queuing (R20). -/
def Link.takeDeferred (l : Link) : Link :=
  match l.deferred with
  | none => l
  | some kind => ({ l with deferred := none }).queueEvacuation kind

/-- When a transmission ends, the deferred egress slot is served (R20). -/
def State.serveDeferred (s : State) : State := s.setLink s.link.takeDeferred

/-- The frame SENDING, for an entry that is. -/
def State.frameOf (s : State) (e : TxEntry) : Frame :=
  s.link.txFrame.getD { sender := s.presence.number, kind := e.kind, window := 0, body := [] }

/-- A first or second loss (R17, R19): the entry is WAITING again with its requeue mark clear, and a noted stop cause refuses
the presentation (R99). -/
def State.loseOnce (s : State) (e : TxEntry) (rest : List TxEntry) : State :=
  let t := s.setLink
    { s.link with
      queue := { e with sending := false, attempts := e.attempts + 1, requeue := false } :: rest
      txFrame := none }
  match e.kind, t.admission.record.bind Presentation.stopCause with
  | .ticket, some cause => t.refuse cause.reason 0
  | _, _ => t

/-- FRAME DROPPED for the kinds that raise it (R17), with the window byte of the last attempt. -/
def State.dropReport (s : State) (e : TxEntry) : State :=
  match e.kind with
  | .ticket | .claim => s
  | _ => s.raise .frameDropped e.kind.code.toNat (s.frameOf e).window.toNat

/-- What the owner does on the removal of its entry after a third loss (R17, R62, R76, R93, R180). -/
def State.ownerDropped (s : State) (e : TxEntry) : State :=
  match e.kind with
  | .ticket => s.refuse .link 0
  | .grant => s.requeueGrant
  | .tally => s.windowEnded false
  | .egressEnd => s.setEgress { s.egress with endMark := false }
  | .status | .offer | .close | .claim | .egress | .test => s

/-- The request that set a requeue mark is taken as a new queuing of that kind, an evacuation kind's at the head (R17, R19, R20). -/
def State.requeueMarked (s : State) (e : TxEntry) : State :=
  if e.requeue then if e.kind.isEvacuation then s.queueEvacuation e.kind else s.queueKind e.kind else s

/-- A third loss (R17): the entry is removed. -/
def State.loseThird (s : State) (e : TxEntry) (rest : List TxEntry) : State :=
  let t := s.dropReport e
  ((t.setLink { t.link with queue := rest, txFrame := none }).ownerDropped e).requeueMarked e

/-- The SENDING head entry loses one attempt (R15 to R17, R20). -/
def State.lose (s : State) : State :=
  match s.link.queue with
  | [] => s
  | e :: rest =>
    if e.sending then (if e.attempts < 2 then s.loseOnce e rest else s.loseThird e rest).serveDeferred else s

/-- LOST_ARBITRATION (R15): the receiver goes on assembling the winning frame. -/
def execLostArbitration (s : State) : Host.Outcome State Fault Refusal := .next (settleClear s s.lose)

/-- READBACK_FAULT (R16): counts as a loss, and the own receiver returns to HUNT. -/
def execReadbackFault (s : State) : Host.Outcome State Fault Refusal :=
  .next <|
    match s.link.queue with
    | [] => s
    | e :: _ => if e.sending then settleClear s (s.setLink s.link.hunting).lose else s

/-- The entry that has completed leaves, or stays at the tail as a new WAITING entry when its requeue mark is set (R18, R19). -/
def afterCompletion (e : TxEntry) (rest : List TxEntry) : List TxEntry :=
  if e.requeue then rest ++ [{ e with sending := false, attempts := 0, requeue := false }] else rest

/-- An own STATUS completes: built with the view flag set at a gate, it sets the announced mark, whose change makes the
background check (R67). -/
def State.statusCompleted (s : State) (f : Frame) : State :=
  if s.isGate ∧ statusViewFlag f.body ∧ !s.account.announced then
    (s.setAccount { s.account with announced := true }).backgroundCheck
  else s

/-- An own TICKET completes (R93, R94, R109): the presentation is admitted and the ticket is offered to the own list. The admission
unit comes first: R109 and R118 leave the order open, log entry 5. -/
def State.ticketCompleted (s : State) (e : TxEntry) : State :=
  let t := match s.admission.record with
    | some p => s.admitParty p.number p.party p.window
    | none => s
  match e.ticket with
  | some c => t.offerTicket c.key c.cls c.party t.presence.number c.window .own
  | none => t

/-- The block that queued a kind is told of its completion (R18). -/
def State.ownerCompleted (s : State) (e : TxEntry) (f : Frame) : State :=
  match e.kind with
  | .status => s.statusCompleted f
  | .grant => s.grantCompleted f
  | .ticket => s.ticketCompleted e
  | .tally => s.windowEnded true
  | .egressEnd => s.setEgress { s.egress with endMark := false }
  | .offer | .close | .claim | .egress | .test => s

/-- OWN_FRAME_COMPLETE (R18 to R20). -/
def execOwnFrameComplete (s : State) : Host.Outcome State Fault Refusal :=
  .next <|
    match s.link.queue with
    | [] => s
    | e :: rest =>
      if e.sending then
        let t := s.setLink
          { s.link.hunting with
            queue := afterCompletion e rest
            txFrame := none
            lastSender := s.presence.number }
        settleClear s (t.ownerCompleted e (s.frameOf e)).serveDeferred
      else s

/-! ## Self-test (R24) -/

/-- The port in WORK with a request whose reply is not built yet (R184). -/
def HostPort.working (p : HostPort) : HostPort :=
  { p with state := .work, request := [], reply := [], offered := false, shifted := 0 }

/-- SELFTEST (R24): taken in SETUP, it takes the receiver off the line; its reply is built when the test ends. -/
def execSelftest (s : State) : Host.Outcome State Fault Refusal :=
  .next <|
    if s.canTake then
      if s.presence.state = .setup then
        (s.setPort s.port.working).setLink { s.link.hunting with loopback := true }
      else s.reply (.refused .state)
    else s

/-- The reply of a self-test result (R24, R186). -/
def SelftestResult.reply : SelftestResult → Reply
  | .pass => ⟨9, []⟩
  | .noFlag => ⟨10, [1]⟩
  | .crc => ⟨10, [2]⟩
  | .length => ⟨10, [3]⟩

/-- SELFTEST_END (R24): the reply is decided from the bits received, and the receiver is reconnected in HUNT. -/
def execSelftestEnd (received : List Bool) (s : State) : Host.Outcome State Fault Refusal :=
  .next <|
    if s.link.loopback then
      (s.setLink { s.link.hunting with loopback := false }).reply (selftestResult s.presence.number received).reply
    else s

end Sys2Proof.Machine
end

