-- ==== Sys2Proof/Machine/Host.lean ====
section
/-! DEFINITION. The host port (chapter 11): its lines and sessions, the message checks, the general requests, QUERY, the
event requests, START and the resets, and the millisecond count. -/

namespace Sys2Proof.Machine

/-! ## Resets and the millisecond count (R191, R192, R196) -/

/-- FULL_RESET (R196): power-on or the RESET pin, whatever the port state. -/
def execFullReset (straps : Station) (s : State) : Host.Outcome State Fault Refusal := .next (s.fullReset straps)

/-- One millisecond passes for the presence unit's timers (R27, R33). -/
def Presence.tick (p : Presence) : Presence :=
  { p with
    listenTimer := p.listenTimer.tick
    isolationTimer := p.isolationTimer.tick
    rollTimer := p.rollTimer.tick
    peers := p.peers.map fun e => { e with silence := e.silence.tick } }

/-- One millisecond passes for the lane's timers (R120). -/
def Lane.tick (l : Lane) : Lane :=
  { l with
    passageWait := l.passageWait.tick
    clearTimer := l.clearTimer.tick
    loiterA := l.loiterA.tick
    loiterB := l.loiterB.tick }

/-- One millisecond passes for the barrier driver's timers (R161); the re-drive timer stops when its time has run (R173). -/
def Barrier.tick (b : Barrier) : Barrier :=
  { b with
    brakeTimer := b.brakeTimer.tick
    travelTimer := b.travelTimer.tick
    pauseTimer := b.pauseTimer.tick
    reDriveTimer := b.reDriveTimer.tickOut }

/-- MILLISECOND_COUNT_ADVANCE (R192): the count advances by one, and every running timer has one millisecond less to run (log
entry 3). -/
def execMillisecondCountAdvance (s : State) : Host.Outcome State Fault Refusal :=
  .next
    { s with
      events := { s.events with msCount := s.events.msCount + 1 }
      presence := s.presence.tick
      vessel := { s.vessel with tallyTimer := s.vessel.tallyTimer.tick }
      view := { s.view with orphanTimer := s.view.orphanTimer.tick }
      account :=
        { s.account with waitTimer := s.account.waitTimer.tick, repeatTimer := s.account.repeatTimer.tick }
      list := { s.list with secondTimer := s.list.secondTimer.tick }
      lane := s.lane.tick
      barrier := s.barrier.tick }

/-- RESET (R191): the full reset is pending while the reply waits. -/
def execReset (s : State) : Host.Outcome State Fault Refusal :=
  .next (s.takeRequest .both fun t => (t.setPort { t.port with resetPending := true }, .ok))

/-! ## Identity and configuration (R187, R189) -/

/-- Station state codes (R187). -/
def StationState.code : StationState → Nat
  | .setup => 0
  | .listen => 1
  | .active => 2
  | .isolated => 3

/-- The payload of IDENTIFY (R187). -/
def State.identity (s : State) : List Byte :=
  countBytes Config.vendorCode ++ countBytes Config.partCode
    ++ [byteOf Config.revision, byteOf s.presence.number.toNat, flagByte s.isGate, byteOf s.presence.state.code]

/-- IDENTIFY (R187). -/
def execIdentify (s : State) : Host.Outcome State Fault Refusal :=
  .next (s.takeRequest .both fun t => (t, .ok t.identity))

/-- CONFIGURE (R189); a payload of another length than 30 fails message check 4 (R184). -/
def State.takeConfigure (payload : List Byte) (s : State) : State × Reply :=
  if payload.length ≠ 30 then (s, .refused .length)
  else if s.locked then (s, .refused .locked)
  else
    match firstBadField payload with
    | some index => (s, .refused .field index)
    | none => (s.setConfig (ConfigRecord.ofPayload payload), .ok)

/-- CONFIGURE (R189). -/
def execConfigure (payload : List Byte) (s : State) : Host.Outcome State Fault Refusal :=
  .next (s.takeRequest .both (State.takeConfigure payload))

/-! ## START (R28, R126, R190) -/

/-- The lane at START (R126): the vessel lane in FLOW commands the barrier open, in ALIGHT it takes IDLE; a lane already in
FAULT keeps it (log entry 24). -/
def State.startLane (s : State) : State :=
  if s.flowMode then
    (s.setLane { s.lane with state := if s.lane.state = .fault then .fault else .flow }).openCommand false
  else if s.isVessel then
    s.setLane { s.lane with state := if s.lane.state = .fault then .fault else .idle }
  else s

/-- START (R190). -/
def State.takeStart (s : State) : State × Reply :=
  if s.presence.state = .setup then
    let t := (s.setLocked true).setPresence
      { s.presence with state := .listen, listenTimer := .running Config.listenMs }
    let u := (t.setConverter t.converter.begun).startLane
    (if u.egress.input then u.enterOwnEgress else u, .ok)
  else (s, .refused .state)

/-- START (R190). -/
def execStart (s : State) : Host.Outcome State Fault Refusal :=
  .next (settleClear s (s.takeRequest .both State.takeStart))

/-! ## Events (R194, R195) -/

/-- READ EVENT (R194). -/
def State.takeReadEvent (s : State) : State × Reply :=
  match s.events.records with
  | [] => (s, .empty)
  | oldest :: rest => (s.setEvents { s.events with records := rest }, ⟨8, oldest.bytes ++ [byteOf rest.length]⟩)

/-- READ_EVENT (R194). -/
def execReadEvent (s : State) : Host.Outcome State Fault Refusal :=
  .next (s.takeRequest .both State.takeReadEvent)

/-- PEEK EVENT (R194). -/
def State.takePeekEvent (s : State) : State × Reply :=
  match s.events.records with
  | [] => (s, .empty)
  | oldest :: rest => (s, ⟨8, oldest.bytes ++ [byteOf (rest.length + 1)]⟩)

/-- PEEK_EVENT (R194). -/
def execPeekEvent (s : State) : Host.Outcome State Fault Refusal :=
  .next (s.takeRequest .both State.takePeekEvent)

/-- SET MASK (R195). -/
def State.takeSetMask (mask : Byte) (s : State) : State × Reply :=
  if mask.getLsbD 7 then (s, .refused .field 1)
  else
    (s.setEvents { s.events with mask := mask.extractLsb' 0 7 }, .ok [mask, byteOf s.events.records.length])

/-- SET_MASK (R195). -/
def execSetMask (mask : Byte) (s : State) : Host.Outcome State Fault Refusal :=
  .next (s.takeRequest .both (State.takeSetMask mask))

/-! ## QUERY (R188) -/

/-- View state codes (R188). -/
def ViewState.code : ViewState → Nat
  | .none => 0
  | .opened => 1
  | .orphaned => 2
  | .closed => 3

/-- Claim codes (R188). -/
def Claim.code : Claim → Nat
  | .none => 0
  | .background => 1
  | .demand => 2

/-- Presentation state codes (R188): 0 with no record. -/
def presentationCode : Option Presentation → Nat
  | none => 0
  | some p => if p.state = .awaitPlaces then 1 else 2

/-- Tracker state codes (R188). -/
def TrackerState.code : TrackerState → Nat
  | .none => 0
  | .entering => 1
  | .crossing => 2
  | .leaving => 3

/-- Direction codes (R188). -/
def Direction.code : Direction → Nat
  | .forward => 0
  | .reverse => 1

/-- Plate class codes (R188). -/
def PlateClass.code : PlateClass → Nat
  | .empty => 0
  | .occupied => 1
  | .multiple => 2

/-- Conversion result codes (R188). -/
def ConversionResult.code : ConversionResult → Nat
  | .none => 0
  | .good => 1
  | .overrange => 2
  | .zeroFault => 3

/-- Barrier state codes (R188). -/
def BarrierState.code : BarrierState → Nat
  | .unknown => 0
  | .closed => 1
  | .opening => 2
  | .opened => 3
  | .closing => 4
  | .paused => 5
  | .halted => 6

/-- Barrier output codes (R188). -/
def BarrierOutput.code : BarrierOutput → Nat
  | .off => 0
  | .driveOpen => 1
  | .driveClose => 2
  | .brake => 3

/-- Presence codes (R188). -/
def PeerPresence.code : PeerPresence → Nat
  | .unknown => 0
  | .present => 1
  | .absent => 2

/-- Page 0: station (R188). -/
def State.pageStation (s : State) : List Byte :=
  [byteOf s.presence.number.toNat, flagByte s.isGate, byteOf s.presence.state.code, byteOf s.link.lastSender.toNat,
    flagByte s.inEgress, byteOf s.egress.origin.code, flagByte s.egress.input, flagByte s.egress.endMark,
    byteOf s.events.records.length, s.events.mask.setWidth 8]

/-- Page 1 at a gate (R188). -/
def State.pageGate (s : State) : List Byte :=
  let field (f : Presentation → Nat) : Byte := byteOf ((s.admission.record.map f).getD 0)
  [byteOf s.view.state.code, byteOf s.view.number, byteOf s.view.lastTallied, flagByte s.view.tallyPending]
    ++ countBytes s.account.granted ++ countBytes s.account.returned ++ countBytes s.account.charged
    ++ countBytes s.held ++ [byteOf s.account.reserved] ++ countBytes s.account.wanted
    ++ [byteOf s.account.claim.code, flagByte s.account.full, flagByte s.account.announced,
      byteOf (presentationCode s.admission.record), field Presentation.number, field Presentation.cls,
      field Presentation.party, byteOf s.admission.counter]

/-- Page 1 at the vessel station (R188). -/
def State.pageVessel (s : State) : List Byte :=
  let v := s.vessel
  [byteOf v.state.code, byteOf v.number] ++ countBytes v.offer ++ countBytes s.config.capacity ++ countBytes v.onboard
    ++ countBytes v.remainder ++ [byteOf v.lastServed, flagByte v.fullRaised, flagByte v.tallyTimer.isRunning]

/-- A plate's part of page 2 (R188). -/
def Plate.page (p : Plate) : List Byte :=
  [byteOf p.cls.code, flagByte p.fault] ++ countBytes p.reading
    ++ [byteOf p.result.code, byteOf p.bad, flagByte (p.settle == 2)]

/-- An end in a field where 0 is none (R188). -/
def endField : Option EndId → Byte
  | none => 0
  | some e => byteOf (endCode e)

/-- The barrier driver's part of page 2 (R188). -/
def Barrier.page (b : Barrier) : List Byte :=
  [byteOf b.state.code, byteOf b.output.code, endField (b.movement.map Movement.direction), byteOf b.retry,
    byteOf b.obstructions, flagByte b.latch, flagByte b.unconfirmed, endField b.reDrive]

/-- Page 2: lane (R188). -/
def State.pageLane (s : State) : List Byte :=
  let l := s.lane
  [byteOf l.state.code, flagByte l.holdPending, flagByte l.settleMark, flagByte l.recovery,
    byteOf ((l.faultCause.map FaultCause.code).getD 0), byteOf l.remaining, byteOf l.tracker.state.code,
    byteOf l.tracker.direction.code]
    ++ countBytes l.paid ++ countBytes l.unpaid ++ countBytes l.excess ++ countBytes l.egressPassages
    ++ [byteOf l.mode.code] ++ s.converter.plateA.page ++ s.converter.plateB.page ++ s.barrier.page

/-- The held credits of a gate's STATUS record; 0 for the vessel station, for the own number and for an empty record (R33,
R188). -/
def Peer.held (e : Peer) (n own : Station) : Nat :=
  match e.record with
  | some r => if n = 0 ∨ n = own then 0 else wordAt r.body 12
  | none => 0

/-- One entry of pages 3 and 4 (R33, R188). -/
def Peer.page (e : Peer) (n own : Station) : List Byte :=
  [byteOf e.presence.code, flagByte e.egress, (e.record.map StatusRecord.window).getD 0,
    (e.record.map fun r => byteAt r.body 0).getD 0] ++ countBytes (e.held n own)

/-- Pages 3 and 4: the peers from `first`, eight of them (R188). -/
def State.pagePeers (s : State) (first : Nat) : List Byte :=
  ((List.range 8).map fun i =>
    let n := BitVec.ofNat 4 (first + i)
    (s.presence.peer n).page n s.presence.number).flatten

/-- One gate of pages 5 and 6 (R188). -/
def GateRow.page (g : GateRow) : List Byte :=
  countBytes g.granted ++ countBytes g.returned
    ++ [byteOf ((if g.due then 1 else 0) + if g.lost then 2 else 0)]

/-- Pages 5 and 6: `count` gates from `first` (R188). -/
def State.pageAccounts (s : State) (first count : Nat) : List Byte :=
  ((List.range count).map fun i => (s.vessel.row (BitVec.ofNat 4 (first + i))).page).flatten

/-- QUERY (R188). -/
def State.takeQuery (page : Byte) (s : State) : State × Reply :=
  let shown (body : List Byte) : State × Reply := (s, .ok (page :: body))
  match page.toNat with
  | 0 => shown s.pageStation
  | 1 => shown (if s.isVessel then s.pageVessel else s.pageGate)
  | 2 => shown s.pageLane
  | 3 => shown (s.pagePeers 0)
  | 4 => shown (s.pagePeers 8)
  | 5 => if s.isVessel then shown (s.pageAccounts 1 8) else (s, .refused .role)
  | 6 => if s.isVessel then shown (s.pageAccounts 9 7) else (s, .refused .role)
  | _ => (s, .refused .field 1)

/-- QUERY (R188). -/
def execQuery (page : Byte) (s : State) : Host.Outcome State Fault Refusal :=
  .next (s.takeRequest .both (State.takeQuery page))

/-! ## Message checks (R184) -/

/-- The payload length and roles of a kind code (R184). -/
def requestShape : Nat → Option (Nat × RequestRole)
  | 1 => some (0, .both)
  | 2 => some (30, .both)
  | 3 => some (0, .both)
  | 4 => some (0, .both)
  | 5 => some (0, .both)
  | 6 => some (4, .both)
  | 7 => some (1, .both)
  | 8 => some (0, .both)
  | 9 => some (0, .both)
  | 10 => some (1, .both)
  | 11 => some (0, .both)
  | 12 => some (0, .both)
  | 13 => some (0, .both)
  | 14 => some (6, .gate)
  | 15 => some (1, .gate)
  | 16 => some (0, .gate)
  | 17 => some (0, .gate)
  | 18 => some (0, .vessel)
  | 19 => some (0, .vessel)
  | 20 => some (2, .vessel)
  | 21 => some (1, .vessel)
  | _ => none

/-- The request is complete: at a length byte above 60, or at length + 3 bytes (R183). -/
def messageComplete (m : List Byte) : Bool :=
  decide (2 ≤ m.length) && (decide (Config.maxPayload < natAt m 1) || decide (natAt m 1 + 3 ≤ m.length))

/-- The first failing message check (R184). -/
def State.messageCheck (s : State) (m : List Byte) : Option RequestReason :=
  if Config.maxPayload < natAt m 1 then some .length
  else if m.foldl (· + ·) 0 ≠ 0 then some .badCheck
  else
    match requestShape (natAt m 0) with
    | none => some .unknown
    | some (size, role) =>
      if natAt m 1 ≠ size then some .length else if s.hasRole role then none else some .role

/-- REQUEST_FAILS_MESSAGE_CHECK (R184): the first failing check gives the reply, and the request changes nothing. -/
def execRequestFailsMessageCheck (message : List Byte) (s : State) : Host.Outcome State Fault Refusal :=
  .next <|
    if s.canTake ∧ messageComplete message then
      match s.messageCheck message with
      | some reason => s.reply (.refused reason)
      | none => s
    else s

/-- A message that passes the checks is handed to the block that owns it (R184). -/
def handRequest (m : List Byte) (s : State) : Host.Outcome State Fault Refusal :=
  match natAt m 0 with
  | 1 => execIdentify s
  | 2 => execConfigure ((m.drop 2).take 30) s
  | 3 => execSelftest s
  | 4 => execStart s
  | 5 => execReset s
  | 6 => execLookup (keyAt m 2) s
  | 7 => execQuery (byteAt m 2) s
  | 8 => execReadEvent s
  | 9 => execPeekEvent s
  | 10 => execSetMask (byteAt m 2) s
  | 11 => execLaneRestart s
  | 12 => execClearFault s
  | 13 => execEgressEnd s
  | 14 => execPresent (keyAt m 2) (byteAt m 6) (byteAt m 7) s
  | 15 => execCancel (byteAt m 2) s
  | 16 => execHold s
  | 17 => execRelease s
  | 18 => execOpenWindow s
  | 19 => execCloseWindow s
  | 20 => execSetOnboard (byteAt m 2 ++ byteAt m 3) s
  | 21 => execSetLaneMode (byteAt m 2) s
  | _ => .next (s.reply (.refused .unknown))

/-! ## Lines and sessions (R182, R183, R185) -/

/-- HSEL_ASSERTED (R182): a session begins; in REPLY the reply is offered from its first byte (R185). -/
def execHselAsserted (s : State) : Host.Outcome State Fault Refusal :=
  .next <|
    if s.port.hsel then s
    else s.setPort { s.port with hsel := true, offered := s.port.state == .reply, shifted := 0 }

/-- A byte completed in IDLE or RECEIVE (R183): it is stored, HDO gives 0, and the byte that completes the request has it
taken (R184). -/
def State.receiveByte (s : State) (byte : Byte) : Host.Outcome State Fault Refusal :=
  let m := s.port.request ++ [byte]
  let t := s.setPort { s.port with state := .receive, request := m, hdo := 0 }
  if messageComplete m then
    match t.messageCheck m with
    | some reason => .next (t.reply (.refused reason))
    | none => handRequest m t
  else .next t

/-- The reply byte due in this session: the next one of an offered reply, 0 beyond its end (R182, R185). -/
def HostPort.dueByte (p : HostPort) : Byte := if p.offered then p.reply.getD p.shifted 0 else 0

/-- HOST_BYTE_COMPLETED (R182, R183, R185): clock edges outside a session are ignored. -/
def execHostByteCompleted (byte : Byte) (s : State) : Host.Outcome State Fault Refusal :=
  if s.port.hsel then
    match s.port.state with
    | .idle | .receive => s.receiveByte byte
    | .work => .next (s.setPort { s.port with hdo := 0 })
    | .reply =>
      .next
        (s.setPort
          { s.port with
            hdo := s.port.dueByte
            shifted := if s.port.offered then min (s.port.shifted + 1) s.port.reply.length else s.port.shifted })
  else .next s

/-- The reply has been read to the end in this session (R185). -/
def HostPort.readToEnd (p : HostPort) : Bool :=
  p.state == .reply && p.offered && decide (p.reply.length ≤ p.shifted)

/-- HOST_SESSION_END (R183, R185, R191): a request still arriving is discarded; a reply read to the end is dropped, with the
full reset of a pending RESET; any other reply stays to be read again. -/
def execHostSessionEnd (straps : Station) (s : State) : Host.Outcome State Fault Refusal :=
  .next <|
    if s.port.hsel then
      let p := { s.port with hsel := false, offered := false, shifted := 0 }
      if s.port.readToEnd then
        let t := s.setPort { p with state := .idle, reply := [] }
        if s.port.resetPending then t.fullReset straps else t
      else if s.port.state = .receive then s.setPort { p with state := .idle, request := [] }
      else s.setPort p
    else s

/-- REPLY_READY (R184, R185): the port enters REPLY with its built reply, which a session in progress does not read. -/
def execReplyReady (s : State) : Host.Outcome State Fault Refusal :=
  .next <|
    if s.port.state = .work ∧ s.port.reply ≠ [] then
      s.setPort { s.port with state := .reply, offered := false, shifted := 0 }
    else s

end Sys2Proof.Machine
end

