-- ==== Sys2Proof/Machine/Dispatch.lean ====
section
/-! DEFINITION. One arm per command: the meaning each command calls. -/

namespace Sys2Proof.Machine

def exec (i : Instr) (s : State) : Host.Outcome State Fault Refusal :=
  match i with
  | .fullReset straps => Sys2Proof.Machine.execFullReset straps s
  | .hostSessionEnd straps => Sys2Proof.Machine.execHostSessionEnd straps s
  | .replyReady => Sys2Proof.Machine.execReplyReady s
  | .identify => Sys2Proof.Machine.execIdentify s
  | .configure payload => Sys2Proof.Machine.execConfigure payload s
  | .selftest => Sys2Proof.Machine.execSelftest s
  | .selftestEnd received => Sys2Proof.Machine.execSelftestEnd received s
  | .start => Sys2Proof.Machine.execStart s
  | .reset => Sys2Proof.Machine.execReset s
  | .lookup key => Sys2Proof.Machine.execLookup key s
  | .query page => Sys2Proof.Machine.execQuery page s
  | .readEvent => Sys2Proof.Machine.execReadEvent s
  | .peekEvent => Sys2Proof.Machine.execPeekEvent s
  | .setMask mask => Sys2Proof.Machine.execSetMask mask s
  | .laneRestart => Sys2Proof.Machine.execLaneRestart s
  | .clearFault => Sys2Proof.Machine.execClearFault s
  | .egressEnd => Sys2Proof.Machine.execEgressEnd s
  | .present key cls party => Sys2Proof.Machine.execPresent key cls party s
  | .cancel number => Sys2Proof.Machine.execCancel number s
  | .hold => Sys2Proof.Machine.execHold s
  | .release => Sys2Proof.Machine.execRelease s
  | .openWindow => Sys2Proof.Machine.execOpenWindow s
  | .closeWindow => Sys2Proof.Machine.execCloseWindow s
  | .setOnboard count => Sys2Proof.Machine.execSetOnboard count s
  | .setLaneMode mode => Sys2Proof.Machine.execSetLaneMode mode s
  | .lineIdle => Sys2Proof.Machine.execLineIdle s
  | .transmitStart slots => Sys2Proof.Machine.execTransmitStart slots s
  | .lostArbitration => Sys2Proof.Machine.execLostArbitration s
  | .readbackFault => Sys2Proof.Machine.execReadbackFault s
  | .ownFrameComplete => Sys2Proof.Machine.execOwnFrameComplete s
  | .badFrame content => Sys2Proof.Machine.execBadFrame content s
  | .frameAbortHeard => Sys2Proof.Machine.execFrameAbortHeard s
  | .unknownKindFrame sender kind window body => Sys2Proof.Machine.execUnknownKindFrame sender kind window body s
  | .statusFrame sender window body => Sys2Proof.Machine.execStatusFrame sender window body s
  | .offerFrame sender window body => Sys2Proof.Machine.execOfferFrame sender window body s
  | .closeFrame sender window body => Sys2Proof.Machine.execCloseFrame sender window body s
  | .claimFrame sender window body => Sys2Proof.Machine.execClaimFrame sender window body s
  | .grantFrame sender window body => Sys2Proof.Machine.execGrantFrame sender window body s
  | .ticketFrame sender window body => Sys2Proof.Machine.execTicketFrame sender window body s
  | .tallyFrame sender window body => Sys2Proof.Machine.execTallyFrame sender window body s
  | .egressFrame sender window body => Sys2Proof.Machine.execEgressFrame sender window body s
  | .egressEndFrame sender window body => Sys2Proof.Machine.execEgressEndFrame sender window body s
  | .listenTimerExpiry => Sys2Proof.Machine.execListenTimerExpiry s
  | .isolationTimerExpiry => Sys2Proof.Machine.execIsolationTimerExpiry s
  | .rollTimerExpiry => Sys2Proof.Machine.execRollTimerExpiry s
  | .silenceTimerExpiry peer => Sys2Proof.Machine.execSilenceTimerExpiry peer s
  | .tallyTimerExpiry => Sys2Proof.Machine.execTallyTimerExpiry s
  | .orphanTimerExpiry => Sys2Proof.Machine.execOrphanTimerExpiry s
  | .keptDemandStart => Sys2Proof.Machine.execKeptDemandStart s
  | .claimRepeatTimerExpiry => Sys2Proof.Machine.execClaimRepeatTimerExpiry s
  | .claimWaitTimerExpiry => Sys2Proof.Machine.execClaimWaitTimerExpiry s
  | .listSecondTimerExpiry => Sys2Proof.Machine.execListSecondTimerExpiry s
  | .passageWaitExpiry => Sys2Proof.Machine.execPassageWaitExpiry s
  | .clearTimerExpiry => Sys2Proof.Machine.execClearTimerExpiry s
  | .trackerArm => Sys2Proof.Machine.execTrackerArm s
  | .loiterTimerExpiry plate => Sys2Proof.Machine.execLoiterTimerExpiry plate s
  | .zeroPhaseEnd offset => Sys2Proof.Machine.execZeroPhaseEnd offset s
  | .integratePhaseEnd => Sys2Proof.Machine.execIntegratePhaseEnd s
  | .rundownCrossing r => Sys2Proof.Machine.execRundownCrossing r s
  | .rundownOverrange => Sys2Proof.Machine.execRundownOverrange s
  | .endSwitchActive which => Sys2Proof.Machine.execEndSwitchActive which s
  | .endSwitchInactive which => Sys2Proof.Machine.execEndSwitchInactive which s
  | .stall => Sys2Proof.Machine.execStall s
  | .brakeTimerExpiry => Sys2Proof.Machine.execBrakeTimerExpiry s
  | .travelTimerExpiry => Sys2Proof.Machine.execTravelTimerExpiry s
  | .pauseTimerExpiry => Sys2Proof.Machine.execPauseTimerExpiry s
  | .pendingCloseTaken => Sys2Proof.Machine.execPendingCloseTaken s
  | .reDriveStart => Sys2Proof.Machine.execReDriveStart s
  | .egressInputActive => Sys2Proof.Machine.execEgressInputActive s
  | .egressInputInactive => Sys2Proof.Machine.execEgressInputInactive s
  | .hselAsserted => Sys2Proof.Machine.execHselAsserted s
  | .hostByteCompleted byte => Sys2Proof.Machine.execHostByteCompleted byte s
  | .requestFailsMessageCheck message => Sys2Proof.Machine.execRequestFailsMessageCheck message s
  | .lineBusy => Sys2Proof.Machine.execLineBusy s
  | .openingFlagFound => Sys2Proof.Machine.execOpeningFlagFound s
  | .millisecondCountAdvance => Sys2Proof.Machine.execMillisecondCountAdvance s

end Sys2Proof.Machine
end

