-- ==== Sys2Proof/Machine/Step.lean ====
section
/-! DEFINITION. One step of the part: the command at the front of its queue is taken; on an empty queue the part idles (log
entry 2). -/

namespace Sys2Proof.Machine

/-- One step: the front command's meaning on the state with the queue's rest; with nothing waiting the part idles. -/
def step (s : State) : Host.Outcome State Fault Refusal :=
  match s.pending with
  | [] => .next s
  | c :: rest => exec c (s.setPending rest)

/-- The state with a command put at the front of its queue. -/
def State.withFront (s : State) (c : Instr) : State := s.setPending (c :: s.pending)

/-- The state with the command that a word spells at the front of its queue; no word spells one (Decode.lean). -/
def State.withFetchWord (s : State) (nbits w : Nat) : State :=
  match decodeTableWord nbits w with
  | some c => s.withFront c
  | none => s

end Sys2Proof.Machine
end

