-- ==== Sys2Proof/Safety.lean ====
section
/-! DEFINITION. What is safe, or sound, in a state of the part: the properties of each block that the manual promises for every
moment. Certificates/Slice0/Obligations.lean states that every step keeps them. -/

namespace Sys2Proof.Machine

/-! ## Barrier and plates -/

/-- The flap is not driven onto a person (R159, R162, R166): DRIVE_CLOSE is given in CLOSING alone, the state is CLOSING only
while the plate condition holds, and the driver's egress mark is set exactly while the station is in egress. -/
def State.barrierSafe (s : State) : Prop :=
  (s.barrier.output = .driveClose → s.barrier.state = .closing) ∧
    (s.barrier.state = .closing → s.plateCondition = true) ∧
    s.barrier.egressMark = s.inEgress

/-- The outputs that a barrier state may have (R161). -/
def Barrier.outputFits (b : Barrier) : Prop :=
  match b.state with
  | .unknown | .closed | .opened | .paused | .halted => b.output = .off
  | .opening => b.output = .brake ∨ b.output = .driveOpen
  | .closing => b.output = .brake ∨ b.output = .driveClose

/-- The driver's record is one that R161 describes: the output fits the state, the retry count is at most 3, a latched halt has
its latch set, no movement runs at an end, before the first movement, or when halted, and the travel timer runs only while
the flap moves (R169). -/
def Barrier.sound (b : Barrier) : Prop :=
  b.outputFits ∧ b.retry ≤ Config.retryLimit ∧ (b.state = .halted → b.latch = true) ∧
    (b.movement = none ↔ b.state = .unknown ∨ b.state = .closed ∨ b.state = .opened ∨ b.state = .halted) ∧
    (b.travelTimer.isRunning = true → b.state = .opening ∨ b.state = .closing)

/-- A plate's record is one that R145 describes: a faulted plate is frozen at OCCUPIED with no candidate (R154, R155), a run of 1
goes with a candidate other than the class (R151), and the settle count is at most 2 (R152). -/
def Plate.sound (p : Plate) : Prop :=
  (p.fault = true → p.cls = .occupied ∧ p.candidate = none) ∧
    (p.candidate = none → p.candidateRun = 0) ∧
    (∀ k, p.candidate = some k → p.candidateRun = 1 ∧ k ≠ p.cls) ∧
    p.settle ≤ 2

/-- The two plates take turns (R145, R146): the plate in turn is in a phase of its conversion and the other waits; with none in
turn both are stopped. -/
def Converter.takesTurns (c : Converter) : Prop :=
  match c.turn with
  | none => c.plateA.phase = .stopped ∧ c.plateB.phase = .stopped
  | some p =>
    ((c.plate p).phase = .zero ∨ (c.plate p).phase = .integrate ∨ (c.plate p).phase = .rundown) ∧
      (c.plate (otherPlate p)).phase = .waiting

/-- Both plates' records are sound and the plates take turns. -/
def Converter.sound (c : Converter) : Prop := c.plateA.sound ∧ c.plateB.sound ∧ c.takesTurns

/-- The clear timer runs only on its condition (R124, R140). -/
def State.clearSettled (s : State) : Prop := s.clearCondition = false → s.lane.clearTimer = .stopped

/-! ## Queues and lists -/

/-- The event queue as R192 and R193 describe it: at most 32 records, and their sequence numbers run without a gap up to the one
before the counter's. -/
def EventQueue.sound (q : EventQueue) : Prop :=
  q.records.length ≤ Config.eventQueueSize ∧
    ∀ (i : Nat) (r : EventRecord), q.records[i]? = some r →
      r.sequence = q.sequence - BitVec.ofNat 8 (q.records.length - i)

/-- One entry of the transmit queue is one that R19 describes: at most two losses so far, TICKET contents on a TICKET alone, a
requeue mark on a SENDING entry alone and never on a TICKET or an evacuation frame. -/
def TxEntry.sound (e : TxEntry) : Prop :=
  e.attempts ≤ 2 ∧ (e.ticket.isSome = true ↔ e.kind = .ticket) ∧
    (e.requeue = true → e.sending = true ∧ e.kind ≠ .ticket ∧ e.kind.isEvacuation = false)

/-- The transmit queue as R19 and R20 describe it: sound entries, one of a kind at most, EGRESS and EGRESS END never together, only
the head SENDING, and a kind in the deferred slot only while an evacuation frame is SENDING. -/
def Link.queueSound (l : Link) : Prop :=
  (∀ e ∈ l.queue, e.sound) ∧
    (l.queue.map TxEntry.kind).Nodup ∧
    (l.queue.filter fun e => e.kind.isEvacuation).length ≤ 1 ∧
    (∀ e ∈ l.queue.tail, e.sending = false) ∧
    (∀ k, l.deferred = some k →
      k.isEvacuation = true ∧ ∃ e ∈ l.queue.head?, e.sending = true ∧ e.kind.isEvacuation = true)

/-- The recent admission list as R107 and R113 describe it: at most 160 entries, one of a key, each with time left to run. -/
def RecentList.sound (l : RecentList) : Prop :=
  l.entries.length ≤ Config.recentListSize ∧ (l.entries.map ListEntry.key).Nodup ∧ ∀ e ∈ l.entries, 1 ≤ e.hold

/-! ## Places, passages and settings -/

/-- Places are neither made nor lost (R73): in OPEN and CLOSING, remainder plus the sum over gates of granted less returned is the
offer, and no gate has returned more than it was granted. -/
def Vessel.placesAddUp (v : Vessel) : Prop :=
  v.state = .none ∨
    (v.remainder + (v.gates.toList.map GateRow.granted).sum = v.offer + (v.gates.toList.map GateRow.returned).sum ∧
      ∀ g ∈ v.gates.toList, g.returned ≤ g.granted)

/-- Every field of the configuration record is in the range R189 gives it. -/
def ConfigRecord.inRange (c : ConfigRecord) : Prop :=
  c.resolution ≤ 3 ∧ 1 ≤ c.occupy ∧ c.occupy ≤ 4095 ∧ c.occupy + c.hysteresis < c.multiple ∧ c.multiple ≤ 4095 ∧
    c.hysteresis ≤ 255 ∧ c.hysteresis < c.occupy ∧ 1 ≤ c.creditBlock ∧ c.creditBlock ≤ 16 ∧
    c.lowMark ≤ c.creditBlock - 1 ∧ 2 ≤ c.passageWait ∧ c.passageWait ≤ 30 ∧ c.stallLevel ≤ 3 ∧ c.deglitch ≤ 3 ∧
    1 ≤ c.capacity ∧ c.capacity ≤ 999 ∧
    ∀ r ∈ c.classes.toList, r.holdTime ≤ 255 ∧ 1 ≤ r.maxParty ∧ r.maxParty ≤ 8

/-- Authorised passages stay within a party (R87, R121): the settings are in range, and both the remaining passages and the party of
a pending presentation are at most 8. -/
def State.partiesFit (s : State) : Prop :=
  s.config.inRange ∧ s.lane.remaining ≤ 8 ∧ ∀ p, s.admission.record = some p → p.party ≤ 8

/-- A station in egress holds no presentation and no authorised passages (R176 to R178): its lane is in EGRESS, its origin is named, and
it has left SETUP; outside egress the origin is none. -/
def State.egressSound (s : State) : Prop :=
  if s.egress.state = .egress then
    s.lane.state = .egress ∧ s.lane.remaining = 0 ∧ s.admission.record = none ∧ s.egress.origin ≠ .none ∧
      s.presence.state ≠ .setup
  else s.egress.origin = .none

/-! ## The gate place account -/

/-- The places set aside for a presentation in AWAIT_LINK (R65). -/
def State.partyAside (s : State) : Nat :=
  match s.admission.record with
  | some p => if p.state = .awaitLink then p.party else 0
  | none => 0

/-- A gate's place account is in balance with its lane (R64, R81): what is returned, charged and reserved never exceeds what is
granted, so that held and the free credits are true differences; and charged is paid + unpaid - excess + remaining. -/
def State.inBalance (s : State) : Prop :=
  s.account.returned + s.account.charged + s.account.reserved ≤ s.account.granted ∧
    s.account.charged + s.lane.excess = s.lane.paid + s.lane.unpaid + s.lane.remaining ∧
    s.lane.excess ≤ s.lane.unpaid

/-- What keeps a gate's account in balance: the reservation is the party of a presentation in AWAIT_LINK (R65), which is what a
TICKET in the queue stands for (R92); out of view OPEN no presentation is left but one whose TICKET is SENDING with its stop
cause noted, while the view is ORPHANED (R99, R100); a view NONE leaves no remaining passages (R84); and a TALLY is queued once,
in CLOSED with none remaining (R61). -/
def State.accountSound (s : State) : Prop :=
  s.isGate = true →
    s.inBalance ∧ s.account.reserved = s.partyAside ∧
      ((∃ e ∈ s.link.queue, e.kind = .ticket) → ∃ p, s.admission.record = some p ∧ p.state = .awaitLink) ∧
      (s.view.state ≠ .opened → ∀ p, s.admission.record = some p →
        s.view.state = .orphaned ∧ s.ticketStarted = true ∧ p.stopCause ≠ none) ∧
      (s.view.state = .none → s.lane.remaining = 0) ∧
      (s.view.tallyPending = true → s.view.state = .closed ∧ s.lane.remaining = 0) ∧
      ∀ e ∈ s.link.queue, e.kind = .tally → s.view.tallyPending = true ∧ e.requeue = false

/-- The commands that a frame of another station makes (R6). -/
def isFrameHeard : Instr → Bool
  | .unknownKindFrame .. | .statusFrame .. | .offerFrame .. | .closeFrame .. | .claimFrame .. | .grantFrame ..
  | .ticketFrame .. | .tallyFrame .. | .egressFrame .. | .egressEndFrame .. => true
  | _ => false

/-- What the manual says of the times of things, and a state alone does not show: while the own TICKET is on the line no frame of
another station is heard (R100), nor does the 30 s of an orphaned view end in the 242 us that a TICKET lasts after the stop
cause that orphaning notes (R99, R60); and a lane that is IDLE, or that a presentation waits for, has no remaining passages
(R121, log entry 31). -/
def State.timely (s : State) : Prop :=
  (s.ticketStarted = true → ∀ c ∈ s.pending.head?, isFrameHeard c = false ∧ c ≠ .orphanTimerExpiry) ∧
    (s.lane.state = .idle ∨ s.admission.record ≠ none → s.lane.remaining = 0)

/-! ## Words the statements use -/

/-- The station takes a good frame from `g` to its blocks (R6): it is past SETUP, its receiver is on the line, and the number is not
its own. -/
def State.hears (s : State) (g : Station) : Prop :=
  s.link.loopback = false ∧ s.presence.state ≠ .setup ∧ g ≠ s.presence.number

/-- The state in which the owner of a kind finds the part when a good frame from `g` is delivered: last sender set, the presence
unit told (R6). -/
def State.delivered (s : State) (g : Station) : State := ((s.frameTaken g).heardAtStation g).peerHeard g

/-- The bytes that HDO gives while the host shifts in `sent`, and the part after them (R182, R185). -/
def clockBytes : List Byte → State → Option (List Byte × State)
  | [], s => some ([], s)
  | b :: rest, s =>
    match exec (.hostByteCompleted b) s with
    | .next t => (clockBytes rest t).map fun r => (t.port.hdo :: r.1, r.2)
    | _ => none

/-- R184's table: kind code, payload bytes, roles. -/
def requestTable : List (Nat × Nat × RequestRole) :=
  [(1, 0, .both), (2, 30, .both), (3, 0, .both), (4, 0, .both), (5, 0, .both), (6, 4, .both), (7, 1, .both),
    (8, 0, .both), (9, 0, .both), (10, 1, .both), (11, 0, .both), (12, 0, .both), (13, 0, .both), (14, 6, .gate),
    (15, 1, .gate), (16, 0, .gate), (17, 0, .gate), (18, 0, .vessel), (19, 0, .vessel), (20, 2, .vessel),
    (21, 1, .vessel)]

/-- The command that a request message which passes its checks spells (R184). -/
def requestOf (m : List Byte) : Option Instr :=
  match natAt m 0 with
  | 1 => some .identify
  | 2 => some (.configure ((m.drop 2).take 30))
  | 3 => some .selftest
  | 4 => some .start
  | 5 => some .reset
  | 6 => some (.lookup (byteAt m 2 ++ byteAt m 3 ++ byteAt m 4 ++ byteAt m 5))
  | 7 => some (.query (byteAt m 2))
  | 8 => some .readEvent
  | 9 => some .peekEvent
  | 10 => some (.setMask (byteAt m 2))
  | 11 => some .laneRestart
  | 12 => some .clearFault
  | 13 => some .egressEnd
  | 14 => some (.present (byteAt m 2 ++ byteAt m 3 ++ byteAt m 4 ++ byteAt m 5) (byteAt m 6) (byteAt m 7))
  | 15 => some (.cancel (byteAt m 2))
  | 16 => some .hold
  | 17 => some .release
  | 18 => some .openWindow
  | 19 => some .closeWindow
  | 20 => some (.setOnboard (byteAt m 2 ++ byteAt m 3))
  | 21 => some (.setLaneMode (byteAt m 2))
  | _ => none

/-- R189's ranges by field index, on the bytes of a CONFIGURE payload. -/
def fieldInRange (b : List Byte) : Nat → Prop
  | 1 => natAt b 0 ≤ 3
  | 2 => 1 ≤ wordAt b 1 ∧ wordAt b 1 ≤ 4095
  | 3 => wordAt b 1 + natAt b 5 < wordAt b 3 ∧ wordAt b 3 ≤ 4095
  | 4 => natAt b 5 < wordAt b 1
  | 5 => 1 ≤ natAt b 6 ∧ natAt b 6 ≤ 16
  | 6 => natAt b 7 < natAt b 6
  | 7 => 2 ≤ natAt b 8 ∧ natAt b 8 ≤ 30
  | 8 => natAt b 9 ≤ 3
  | 9 => natAt b 10 ≤ 3
  | 10 => natAt b 11 ≤ 3
  | 11 => 1 ≤ wordAt b 12 ∧ wordAt b 12 ≤ 999
  | 13 => 1 ≤ natAt b 15 ∧ natAt b 15 ≤ 8
  | 15 => 1 ≤ natAt b 17 ∧ natAt b 17 ≤ 8
  | 17 => 1 ≤ natAt b 19 ∧ natAt b 19 ≤ 8
  | 19 => 1 ≤ natAt b 21 ∧ natAt b 21 ≤ 8
  | 21 => 1 ≤ natAt b 23 ∧ natAt b 23 ≤ 8
  | 23 => 1 ≤ natAt b 25 ∧ natAt b 25 ≤ 8
  | 25 => 1 ≤ natAt b 27 ∧ natAt b 27 ≤ 8
  | 27 => 1 ≤ natAt b 29 ∧ natAt b 29 ≤ 8
  | _ => True

end Sys2Proof.Machine
end

