-- ==== Sys2Proof/Certificates/Slice0/Obligations.lean ====
section
/-! DEFINITION. The statements for the provers: what each command does, and what every step keeps. The premise
`s.canTake = true` of the requests is the model's choice of when a request row is taken (log entry 8); which command shows a
first-moment step, a timer's expiry or a frame is the model's choice too (log entries 3, 10, 16). -/

open Sys2Proof Sys2Proof.Machine

/-! ## Taking commands -/

/-- The command at the front of the queue is taken, on the state with the queue's rest. -/
def Obligations.StepTakesFrontCommand : Prop :=
  ∀ (c : Instr) (s : State) (rest : List Instr), s.pending = c :: rest → step s = exec c (s.setPending rest)

/-- Every command completes, and leaves the queue of commands to the step; with nothing waiting the part idles (the model's
choice, log entry 2). -/
def Obligations.EveryCommandCompletes : Prop :=
  (∀ (c : Instr) (s : State), ∃ t, exec c s = .next t ∧ t.pending = s.pending) ∧
    ∀ s : State, s.pending = [] → step s = .next s

/-! ## Reset -/

/-- R3, R11, R12, R19, R25, R27, R33, R41, R56, R64, R73, R87, R107, R117, R120, R145, R161, R176, R189, R192, R196: a full reset gives
every block the values that its chapter states; the line HSEL, HDO, the tracker's direction and the plates'
stored offsets are the model's choice (log entry 9), the filtered switches too (log entry 7). -/
def Obligations.FullResetValues : Prop :=
  ∀ (straps : Station) (s : State), ∃ t, exec (.fullReset straps) s = .next t ∧
    t.pending = s.pending ∧
    t.port = { state := .idle, hsel := s.port.hsel, request := [], reply := [], offered := false, shifted := 0,
               resetPending := false, hdo := 0 } ∧
    t.ready = true ∧ t.attn = false ∧ t.locked = false ∧
    t.config.resolution = 2 ∧ t.config.occupy = 600 ∧ t.config.multiple = 1700 ∧ t.config.hysteresis = 120 ∧
    t.config.creditBlock = 4 ∧ t.config.lowMark = 1 ∧ t.config.passageWait = 8 ∧ t.config.faultMode = .retry ∧
    t.config.stallLevel = 1 ∧ t.config.deglitch = 1 ∧ t.config.capacity = 100 ∧
    t.config.classes.toList =
      [⟨20, 1⟩, ⟨20, 4⟩, ⟨0, 1⟩, ⟨0, 1⟩, ⟨0, 1⟩, ⟨0, 1⟩, ⟨0, 1⟩, ⟨0, 1⟩] ∧
    t.events = { records := [], lostBefore := false, sequence := 0, msCount := 0, mask := 0 } ∧
    t.link = { hunt := .hunt, buffer := [], ones := 0, lineIdle := false, idleTimer := 0, lastSender := 15,
               queue := [], deferred := none, txFrame := none, loopback := false } ∧
    t.presence.number = straps ∧ t.presence.state = .setup ∧ t.presence.listenTimer = .stopped ∧
    t.presence.isolationTimer = .stopped ∧ t.presence.rollTimer = .stopped ∧
    (∀ n, t.presence.peer n = { presence := .unknown, silence := .stopped, record := none, egress := false }) ∧
    t.vessel.state = .none ∧ t.vessel.number = 0 ∧ t.vessel.offer = 0 ∧ t.vessel.onboard = 0 ∧
    t.vessel.tallyTimer = .stopped ∧ t.vessel.record = none ∧ t.vessel.remainder = 0 ∧ t.vessel.lastServed = 0 ∧
    t.vessel.fullRaised = false ∧
    (∀ g, t.vessel.row g = { paid := 0, unpaid := 0, excess := 0, final := false, granted := 0, returned := 0,
                             due := false, lost := false }) ∧
    t.view = { state := .none, number := 0, lastTallied := 0, orphanTimer := .stopped, tallyPending := false } ∧
    t.account = { granted := 0, returned := 0, charged := 0, reserved := 0, wanted := 0, claim := .none,
                  waitTimer := .stopped, repeatTimer := .stopped, full := false, announced := false, kept := none } ∧
    t.admission = { record := none, counter := 0, lastDecided := none } ∧
    t.list = { entries := [], secondTimer := .running 1000 } ∧
    t.lane = { state := if straps = 0 then .flow else .idle, holdPending := false, settleMark := true,
               recovery := false, faultCause := none, remaining := 0,
               tracker := { state := .none, direction := .forward, armed := false, multiple := false,
                            exited := false },
               paid := 0, unpaid := 0, excess := 0, egressPassages := 0, mode := .flow, passageWait := .stopped,
               clearTimer := .stopped, loiterA := .stopped, loiterB := .stopped } ∧
    t.converter.turn = none ∧
    (∀ p, t.converter.plate p =
      { phase := .stopped, ticks := 0, reading := 0, result := .none, cls := .empty, candidate := none,
        candidateRun := 0, bad := 0, fault := false, settle := 0, offset := 0 }) ∧
    t.barrier = { state := .unknown, output := .off, movement := none, retry := 0, obstructions := 0,
                  latch := false, unconfirmed := false, pendingClose := false, reDrive := none, egressMark := false,
                  brakeTimer := .stopped, travelTimer := .stopped, pauseTimer := .stopped, reDriveTimer := .stopped,
                  openSwitch := false, closedSwitch := false } ∧
    t.egress = { state := .normal, origin := .none, input := false, endMark := false }

/-- Every invariant below holds after a full reset, whatever the straps and the HSEL line give, and so right after
power-on. The straps and the HSEL level of State.reset are log entries 6 and 9. -/
def Obligations.ResetHoldsEveryInvariant : Prop :=
  (∀ (straps : Station) (hsel : Bool),
    let s := State.afterReset straps hsel
    s.barrierSafe ∧ s.barrier.sound ∧ s.converter.sound ∧ s.clearSettled ∧ s.events.sound ∧ s.link.queueSound ∧
      s.list.sound ∧ s.vessel.placesAddUp ∧ s.partiesFit ∧ s.egressSound ∧
      s.accountSound) ∧
    State.reset = State.afterReset 0 false

/-! ## What every step keeps -/

/-- R159: the flap is not driven closed over a plate that is not empty, or in egress; every step keeps the invariant that says so. -/
def Obligations.BarrierNeverClosesOnAPerson : Prop :=
  (∀ s t : State, s.barrierSafe → step s = .next t → t.barrierSafe) ∧
    ∀ s : State, s.barrierSafe → s.barrier.output = .driveClose →
      (∀ p, (s.converter.plate p).cls = .empty ∧ (s.converter.plate p).fault = false) ∧ s.egress.state = .normal

/-- R161, R145: the records of the barrier driver and of the two plates stay sound at every step. -/
def Obligations.BarrierAndPlatesStaySound : Prop :=
  ∀ s t : State, s.barrier.sound → s.converter.sound → step s = .next t → t.barrier.sound ∧ t.converter.sound

/-- R124, R140: the clear timer runs only on its condition, at every step. -/
def Obligations.ClearTimerStaysOnItsCondition : Prop :=
  ∀ s t : State, s.clearSettled → step s = .next t → t.clearSettled

/-- R192, R193: the event queue never holds more than 32 records, and their sequence numbers have no gap. -/
def Obligations.EventQueueStaysSound : Prop :=
  ∀ s t : State, s.events.sound → step s = .next t → t.events.sound

/-- R19, R20: the transmit queue never holds two entries of a kind, nor EGRESS and EGRESS END together, and a SENDING entry is the
head. -/
def Obligations.TransmitQueueStaysSound : Prop :=
  ∀ s t : State, s.link.queueSound → step s = .next t → t.link.queueSound

/-- R107: the recent admission list never holds more than 160 entries or two of one key. -/
def Obligations.RecentListStaysSound : Prop :=
  ∀ s t : State, s.list.sound → step s = .next t → t.list.sound

/-- R73: while a window is OPEN or CLOSING, remainder plus what the gates hold of the grants is the offer. -/
def Obligations.PlacesAlwaysAddUp : Prop :=
  ∀ s t : State, s.vessel.placesAddUp → step s = .next t → t.vessel.placesAddUp

/-- R121, R189: settings in range, and no more than 8 passages authorised. -/
def Obligations.PassagesNeverExceedEight : Prop :=
  ∀ s t : State, s.partiesFit → step s = .next t → t.partiesFit

/-- R178: a station in egress holds no presentation, and its lane no remaining passages. -/
def Obligations.EgressHoldsNothing : Prop :=
  ∀ s t : State, s.egressSound → step s = .next t → t.egressSound

/-- R64, R81: a gate's place account stays in balance with its lane at every step that the manual's times allow (State.timely: R99,
R100, R121, log entry 31), so that held and the free credits are never below 0 and charged is paid + unpaid - excess +
remaining. -/
def Obligations.AccountStaysInBalance : Prop :=
  (∀ s t : State, s.accountSound → s.link.queueSound → s.timely → step s = .next t → t.accountSound) ∧
    ∀ s : State, s.accountSound → s.presence.number ≠ 0 →
      (s.held : Int) = s.account.granted - s.account.returned - s.account.charged ∧
        (s.freeCredits : Int) = s.held - s.account.reserved ∧
        (s.account.charged : Int) = s.lane.paid + s.lane.unpaid - s.lane.excess + s.lane.remaining

/-! ## Frames as bits and bytes -/

/-- R2 to R5: every frame that the transmit side can form is found by the receive side with the content it was given, and passes the
four checks of a good frame. -/
def Obligations.FrameSentIsReceivedGood : Prop :=
  ∀ f : Frame, f.body.length ≤ 24 →
    deframe (.hunting none) f.lineBits = some (bytesBits f.content) ∧
      isGoodContent (bytesBits f.content) = true ∧
      contentBytes (bytesBits f.content) = f.content ∧
      (byteAt f.content 0).extractLsb' 0 4 = f.sender ∧
      FrameKind.ofCode ((byteAt f.content 0).extractLsb' 4 4) = some f.kind ∧
      byteAt f.content 1 = f.window ∧ natAt f.content 2 = f.body.length ∧
      (f.content.drop 3).take f.body.length = f.body

/-- R8, R9, R10, R38, R39: what the builder lays out, the hearers read back: window bytes, lengths and fields. -/
def Obligations.FrameBodiesReadBack : Prop :=
  (∀ s : State,
      s.account.granted ≤ 65535 → s.account.returned ≤ 65535 → s.lane.paid ≤ 65535 → s.lane.unpaid ≤ 65535 →
      s.lane.excess ≤ 65535 → s.held ≤ 65535 →
      let body := s.gateStatus.2
      s.gateStatus.1 = BitVec.ofNat 8 s.view.number ∧ body.length = 14 ∧ natAt body 0 = s.lane.state.code ∧ statusEgressFlag body = s.inEgress ∧
        statusViewFlag body = (s.view.state == .opened) ∧
        GateStatus.ofBody body = ⟨s.account.granted, s.account.returned, s.lane.paid, s.lane.unpaid, s.lane.excess⟩ ∧
        wordAt body 12 = s.held ∧
        GateStatus.ofTally s.tallyBody =
          ⟨s.account.granted, s.account.returned, s.lane.paid, s.lane.unpaid, s.lane.excess⟩ ∧
        s.tallyBody.length = 10) ∧
    (∀ s : State, s.vessel.state ≠ .none → s.vessel.offer ≤ 65535 → s.vessel.remainder ≤ 65535 →
      s.vessel.onboard ≤ 65535 →
      let body := s.vesselStatus.2
      s.vesselStatus.1 = BitVec.ofNat 8 s.vessel.number ∧ body.length = 9 ∧ natAt body 0 = (if s.vessel.state = .opened then 1 else 2) ∧
        statusEgressFlag body = s.inEgress ∧ wordAt body 2 = s.vessel.offer ∧ wordAt body 4 = s.vessel.remainder ∧
        wordAt body 6 = s.vessel.onboard ∧ natAt body 8 = (if s.lane.mode = .flow then 0 else 1)) ∧
    (∀ s : State, s.vessel.state = .none → s.vessel.onboard ≤ 65535 →
      let body := s.vesselStatus.2
      s.vesselStatus.1 = 0 ∧ body.length = 9 ∧ natAt body 0 = 0 ∧ statusEgressFlag body = s.inEgress ∧
        wordAt body 2 = 0 ∧ wordAt body 4 = 0 ∧ wordAt body 6 = s.vessel.onboard ∧
        natAt body 8 = (if s.lane.mode = .flow then 0 else 1)) ∧
    (∀ (remainder : Nat) (pairs : List (Nat × Nat)), remainder ≤ 65535 → pairs.length ≤ 4 →
      (∀ p ∈ pairs, p.1 ≤ 15 ∧ p.2 ≤ 65535) →
      (grantBody remainder pairs).length = 2 + 3 * pairs.length ∧
        wordAt (grantBody remainder pairs) 0 = remainder ∧ grantPairs (grantBody remainder pairs) = pairs) ∧
    ∀ t : TicketContents, t.cls ≤ 255 → t.party ≤ 255 →
      t.body.length = 6 ∧ keyAt t.body 0 = t.key ∧ natAt t.body 4 = t.cls ∧ natAt t.body 5 = t.party

/-! ## Operations that the commands share -/

/-- R192, R193: an event raised with room in the queue is placed at the young end with its sequence number, time and lost-before
flag; at a full queue it is lost and the mark is set. The millisecond count advances by one modulo 65536; every running timer has
one millisecond less to run, and the re-drive timer, which has no expiry command, stops at its end (the model's choice, log
entry 3). -/
def Obligations.EventsAreTimedAndQueued : Prop :=
  (∀ (s : State) (kind : EventKind) (a b c : Nat), a ≤ 65535 → b ≤ 65535 → c ≤ 65535 →
    (s.events.records.length < 32 →
      s.raise kind a b c = s.setEvents
        { s.events with
          records := s.events.records ++
            [{ kind := kind, lost := s.events.lostBefore, sequence := s.events.sequence, time := s.events.msCount,
               arg1 := BitVec.ofNat 16 a, arg2 := BitVec.ofNat 16 b, arg3 := BitVec.ofNat 16 c }]
          lostBefore := false
          sequence := s.events.sequence + 1 }) ∧
      (32 ≤ s.events.records.length → s.raise kind a b c = s.setEvents { s.events with lostBefore := true })) ∧
  ∀ s : State,
    let less (t : Timer) : Timer := match t with | .running left => .running (left - 1) | other => other
    exec .millisecondCountAdvance s = .next
      { s with
        events := { s.events with msCount := s.events.msCount + 1 }
        presence :=
          { s.presence with
            listenTimer := less s.presence.listenTimer
            isolationTimer := less s.presence.isolationTimer
            rollTimer := less s.presence.rollTimer
            peers := s.presence.peers.map fun e => { e with silence := less e.silence } }
        vessel := { s.vessel with tallyTimer := less s.vessel.tallyTimer }
        view := { s.view with orphanTimer := less s.view.orphanTimer }
        account :=
          { s.account with waitTimer := less s.account.waitTimer, repeatTimer := less s.account.repeatTimer }
        list := { s.list with secondTimer := less s.list.secondTimer }
        lane :=
          { s.lane with
            passageWait := less s.lane.passageWait, clearTimer := less s.lane.clearTimer,
            loiterA := less s.lane.loiterA, loiterB := less s.lane.loiterB }
        barrier :=
          { s.barrier with
            brakeTimer := less s.barrier.brakeTimer, travelTimer := less s.barrier.travelTimer,
            pauseTimer := less s.barrier.pauseTimer
            reDriveTimer :=
              match s.barrier.reDriveTimer with
              | .running left => if left ≤ 1 then .stopped else .running (left - 1)
              | other => other } }

/-- R19, R20, R22: how an entry joins the transmit queue and how it is withdrawn: a kind other than TICKET, EGRESS and EGRESS END,
then TICKET, then the two evacuation kinds, and the withdrawal of any kind. -/
def Obligations.TransmitQueueOperations : Prop :=
  (∀ (l : Link) (kind : FrameKind), kind ≠ .ticket → kind.isEvacuation = false → (∀ e ∈ l.queue, e.kind ≠ kind) →
      l.queueKind kind =
        { l with queue := l.queue ++
            [{ kind := kind, sending := false, attempts := 0, requeue := false, ticket := none }] }) ∧
    (∀ (l : Link) (kind : FrameKind) (before after : List TxEntry) (e : TxEntry), kind ≠ .ticket →
      kind.isEvacuation = false → l.queue = before ++ e :: after → e.kind = kind →
      (∀ x ∈ before ++ after, x.kind ≠ kind) →
      l.queueKind kind =
        (if e.sending then { l with queue := before ++ { e with requeue := true } :: after } else l)) ∧
    (∀ (l : Link) (c : TicketContents),
      ((∀ e ∈ l.queue, e.kind ≠ .ticket) →
        l.queueTicket c =
          { l with queue := l.queue ++
              [{ kind := .ticket, sending := false, attempts := 0, requeue := false, ticket := some c }] }) ∧
      ((∃ e ∈ l.queue, e.kind = .ticket) → l.queueTicket c = l)) ∧
    (∀ (l : Link) (kind : FrameKind) (before after : List TxEntry) (e : TxEntry),
      l.queue = before ++ e :: after → e.kind = kind → (∀ x ∈ before ++ after, x.kind ≠ kind) →
      l.withdraw kind =
        { l with
          queue := if e.sending then before ++ { e with requeue := false } :: after else before ++ after
          deferred := if l.deferred = some kind then none else l.deferred }) ∧
    (∀ (l : Link) (kind : FrameKind), kind.isEvacuation = true →
      (∀ x ∈ l.queue, x.kind.isEvacuation = true → x.sending = false) → (∀ x ∈ l.queue, x.kind ≠ kind) →
      let others := l.queue.filter fun x => !x.kind.isEvacuation
      l.queueEvacuation kind =
        { l with queue :=
            match others with
            | [] => [TxEntry.fresh kind]
            | h :: rest => if h.sending then h :: TxEntry.fresh kind :: rest else TxEntry.fresh kind :: h :: rest }) ∧
    (∀ (l : Link) (kind : FrameKind) (x : TxEntry), kind.isEvacuation = true → x ∈ l.queue →
      x.kind.isEvacuation = true → x.sending = true → l.queueEvacuation kind = { l with deferred := some kind }) ∧
    ∀ (l : Link) (kind : FrameKind), kind.isEvacuation = true →
      (∀ x ∈ l.queue, x.kind.isEvacuation = true → x.sending = false) → (∃ x ∈ l.queue, x.kind = kind) →
      l.queueEvacuation kind = l

/-- R163 and R174: an open command by barrier state, with the OPEN switch inactive; with it active the end is reached at
once. The attempt's mark on its movement is the model's (log entry 14). -/
def Obligations.OpenCommandByBarrierState : Prop :=
  ∀ (s : State) (fromEgress : Bool),
    let taken := { s.barrier with pendingClose := false, reDrive := none }
    let driven (origin : Origin) : Barrier :=
      { taken with
        output := .driveOpen, state := .opening, movement := some ⟨.openEnd, origin, false⟩, retry := 0,
        unconfirmed := false, brakeTimer := .stopped, pauseTimer := .stopped, travelTimer := .running 1500 }
    let arrived := (s.setBarrier
      { taken with
        output := .off, state := .opened, movement := none, retry := 0, unconfirmed := false, brakeTimer := .stopped,
        travelTimer := .stopped, pauseTimer := .stopped }).reportOpen
    (s.barrier.state = .unknown ∨ s.barrier.state = .closed ∨ s.barrier.state = .paused →
      s.openCommand fromEgress = if s.barrier.openSwitch then arrived else s.setBarrier (driven .command)) ∧
    (s.barrier.state = .opening →
      s.openCommand fromEgress = s.setBarrier
        { taken with movement := s.barrier.movement.map fun m => { m with origin := .command } }) ∧
    (s.barrier.state = .opened → s.openCommand fromEgress = (s.setBarrier taken).reportOpen) ∧
    (s.barrier.state = .closing →
      s.openCommand fromEgress =
        if s.barrier.openSwitch then arrived
        else s.setBarrier { driven .command with output := .brake, brakeTimer := .running 20 }) ∧
    (s.barrier.state = .halted →
      s.openCommand false = s ∧
        s.openCommand true =
          if s.barrier.openSwitch then arrived
          else s.setBarrier { driven .command with movement := some ⟨.openEnd, .command, true⟩ })

/-- R164: a close command by barrier state and plate condition. That a movement toward closed clears the retry count and
the unconfirmed mark is log entry 13. -/
def Obligations.CloseCommandByBarrierState : Prop :=
  ∀ s : State,
    let taken := { s.barrier with pendingClose := false, reDrive := none }
    let driven : Barrier :=
      { taken with
        output := .driveClose, state := .closing, movement := some ⟨.closedEnd, .command, false⟩, retry := 0,
        unconfirmed := false, brakeTimer := .stopped, pauseTimer := .stopped, travelTimer := .running 1500 }
    let arrived := (s.setBarrier
      { taken with
        output := .off, state := .closed, movement := none, retry := 0, unconfirmed := false, obstructions := 0,
        brakeTimer := .stopped, travelTimer := .stopped, pauseTimer := .stopped }).reportClosed
    (s.plateCondition = true →
      (s.barrier.state = .unknown ∨ s.barrier.state = .opened ∨ s.barrier.state = .paused →
        s.closeCommand = if s.barrier.closedSwitch then arrived else s.setBarrier driven) ∧
      (s.barrier.state = .opening →
        s.closeCommand =
          if s.barrier.closedSwitch then arrived
          else s.setBarrier { driven with output := .brake, brakeTimer := .running 20 })) ∧
    (s.plateCondition = false →
      (s.barrier.state = .unknown →
        s.closeCommand = (s.setBarrier { s.barrier with pendingClose := true }).reportReversed) ∧
      (s.barrier.state = .opened ∨ s.barrier.state = .opening ∨ s.barrier.state = .paused →
        s.closeCommand = s.reportReversed)) ∧
    (s.barrier.state = .closed → s.closeCommand = (s.setBarrier taken).reportClosed) ∧
    (s.barrier.state = .closing →
      s.closeCommand = s.setBarrier
        { taken with movement := s.barrier.movement.map fun m => { m with origin := .command } }) ∧
    (s.barrier.state = .halted → s.closeCommand = s)

/-! ## The host port -/

/-- R183 to R185, R191: a reply's message has the form of R183 and sums to 0, and while the port is in WORK or REPLY no request is
taken. In REPLY a session gives the reply from its first byte, 0 beyond its end, and takes nothing in; a session that has read the
reply to the end leaves the port in IDLE, and one that ends sooner leaves the reply to be read again. RESET is answered OK and held
pending; the reply becomes ready; the session that has read it to the end makes the full reset. -/
def Obligations.RepliesAreHeldAndRead : Prop :=
  (∀ r : Reply, r.payload.length ≤ 60 →
      r.message.foldl (· + ·) 0 = 0 ∧
        ∃ check, r.message = BitVec.ofNat 8 r.code :: BitVec.ofNat 8 r.payload.length :: (r.payload ++ [check])) ∧
  (∀ (s : State) (m : List Byte) (c : Instr), s.port.state = .work ∨ s.port.state = .reply → s.clearSettled →
      requestOf m = some c → exec c s = .next s) ∧
  (∀ (s : State) (straps : Station) (sent : List Byte), s.port.state = .reply → s.port.hsel = false →
    s.port.resetPending = false →
    ∃ u shown t v, exec .hselAsserted s = .next u ∧ clockBytes sent u = some (shown, t) ∧
      exec (.hostSessionEnd straps) t = .next v ∧
      shown = (s.port.reply ++ List.replicate sent.length 0).take sent.length ∧
      v = s.setPort v.port ∧ v.port.hsel = false ∧
      if s.port.reply.length ≤ sent.length then v.port.state = .idle ∧ v.port.reply = []
      else v.port.state = .reply ∧ v.port.reply = s.port.reply) ∧
  ∀ (s : State) (straps : Station),
    (s.canTake = true →
      exec .reset s = .next ((s.setPort { s.port with resetPending := true }).reply ⟨1, []⟩)) ∧
    (s.port.state = .work → s.port.reply ≠ [] →
      exec .replyReady s = .next (s.setPort { s.port with state := .reply, offered := false, shifted := 0 })) ∧
    (s.port.hsel = true → s.port.state = .reply → s.port.offered = true → s.port.reply.length ≤ s.port.shifted →
      s.port.resetPending = true →
      exec (.hostSessionEnd straps) s = .next ((State.afterReset straps false).setPending s.pending))

/-- R182, R183: HSEL begins a session; the bytes of a request that is not complete are stored and HDO gives 0; a session that ends in
RECEIVE discards them; bytes in WORK, and bytes outside a session, are ignored. That HSEL_ASSERTED in a session and
HOST_SESSION_END outside one change nothing is the model's choice, log entry 1. -/
def Obligations.RequestBytesAreStored : Prop :=
  ∀ (s : State) (b : Byte) (straps : Station),
    (s.port.hsel = false →
      exec .hselAsserted s =
        .next (s.setPort { s.port with hsel := true, offered := s.port.state == .reply, shifted := 0 }) ∧
      exec (.hostByteCompleted b) s = .next s ∧ exec (.hostSessionEnd straps) s = .next s) ∧
    (s.port.hsel = true → exec .hselAsserted s = .next s) ∧
    (s.port.hsel = true → s.port.state = .idle ∨ s.port.state = .receive →
      (let m := s.port.request ++ [b]
       m.length < 2 ∨ (natAt m 1 ≤ 60 ∧ m.length < natAt m 1 + 3)) →
      exec (.hostByteCompleted b) s =
        .next (s.setPort { s.port with state := .receive, request := s.port.request ++ [b], hdo := 0 })) ∧
    (s.port.hsel = true → s.port.state = .work →
      exec (.hostByteCompleted b) s = .next (s.setPort { s.port with hdo := 0 })) ∧
    (s.port.hsel = true → s.port.state = .receive →
      exec (.hostSessionEnd straps) s =
        .next (s.setPort
          { s.port with state := .idle, hsel := false, request := [], offered := false, shifted := 0 }))

/-- R183, R184: the byte that completes a request message has it taken in its own event: the request that the message spells when
the message checks pass. The first failing check gives the reply, and the request changes nothing else, whether its last byte
comes by HOST_BYTE_COMPLETED or the whole message in one command (the model's choice, log entry 8). -/
def Obligations.CompletedMessagesAreChecked : Prop :=
  (∀ (s : State) (b : Byte) (c : Instr), s.port.hsel = true → s.port.state = .idle ∨ s.port.state = .receive →
    let m := s.port.request ++ [b]
    2 ≤ m.length → natAt m 1 ≤ 60 → natAt m 1 + 3 ≤ m.length → m.foldl (· + ·) 0 = 0 →
    (∃ entry ∈ requestTable, entry.1 = natAt m 0 ∧ entry.2.1 = natAt m 1 ∧ s.hasRole entry.2.2 = true) →
    requestOf m = some c →
    exec (.hostByteCompleted b) s = exec c (s.setPort { s.port with state := .receive, request := m, hdo := 0 })) ∧
  ∀ (s : State) (m : List Byte), s.port.state = .idle ∨ s.port.state = .receive → 2 ≤ m.length →
    let refused (c : Instr) (u : State) : Prop :=
      (60 < natAt m 1 → exec c s = .next (u.reply ⟨2, [23, 0]⟩)) ∧
      (natAt m 1 ≤ 60 → m.length = natAt m 1 + 3 →
        (m.foldl (· + ·) 0 ≠ 0 → exec c s = .next (u.reply ⟨2, [21, 0]⟩)) ∧
        (m.foldl (· + ·) 0 = 0 →
          ((∀ entry ∈ requestTable, entry.1 ≠ natAt m 0) → exec c s = .next (u.reply ⟨2, [22, 0]⟩)) ∧
          ∀ entry ∈ requestTable, entry.1 = natAt m 0 →
            (entry.2.1 ≠ natAt m 1 → exec c s = .next (u.reply ⟨2, [23, 0]⟩)) ∧
            (entry.2.1 = natAt m 1 → s.hasRole entry.2.2 = false → exec c s = .next (u.reply ⟨2, [16, 0]⟩))))
    refused (.requestFailsMessageCheck m) s ∧
      ∀ b : Byte, s.port.hsel = true → m = s.port.request ++ [b] →
        refused (.hostByteCompleted b) (s.setPort { s.port with state := .receive, request := m, hdo := 0 })

/-- R187: IDENTIFY, in every station state. -/
def Obligations.IdentifyReply : Prop :=
  ∀ s : State, s.canTake = true →
    exec .identify s = .next (s.reply
      ⟨1, [6, 86, 1, 64, 1, BitVec.ofNat 8 s.presence.number.toNat, if s.presence.number = 0 then 0 else 1,
        match s.presence.state with | .setup => 0 | .listen => 1 | .active => 2 | .isolated => 3]⟩)

/-- R189: CONFIGURE refuses a locked record, names the lowest-numbered field out of range, or replaces the whole record. -/
def Obligations.ConfigureChecksEveryField : Prop :=
  ∀ (s : State) (b : List Byte), s.canTake = true → b.length = 30 →
    (s.locked = true → exec (.configure b) s = .next (s.reply ⟨2, [19, 0]⟩)) ∧
    (s.locked = false → ∀ k, k ≤ 27 → (∀ j < k, fieldInRange b j) → ¬ fieldInRange b k →
      exec (.configure b) s = .next (s.reply ⟨2, [20, BitVec.ofNat 8 k]⟩)) ∧
    (s.locked = false → (∀ k, k ≤ 27 → fieldInRange b k) →
      ∃ c : ConfigRecord, exec (.configure b) s = .next ((s.setConfig c).reply ⟨1, []⟩) ∧
        c.resolution = natAt b 0 ∧ c.occupy = natAt b 1 * 256 + natAt b 2 ∧ c.multiple = natAt b 3 * 256 + natAt b 4 ∧
        c.hysteresis = natAt b 5 ∧ c.creditBlock = natAt b 6 ∧ c.lowMark = natAt b 7 ∧ c.passageWait = natAt b 8 ∧
        (match c.faultMode with | .latch => 0 | .retry => 1 | .report => 2 | .ignore => 3) = natAt b 9 ∧
        c.stallLevel = natAt b 10 ∧ c.deglitch = natAt b 11 ∧ c.capacity = natAt b 12 * 256 + natAt b 13 ∧
        (∀ i : Fin 8, c.classes[i] = ⟨natAt b (14 + 2 * i), natAt b (15 + 2 * i)⟩) ∧ c.inRange)

/-- R190, R28, R126, R146, R177: START in SETUP; refused in any other state. A vessel lane already in FAULT is log entry 24's and is
left out here. -/
def Obligations.StartBeginsTheStation : Prop :=
  ∀ s : State, s.canTake = true →
    (s.presence.state ≠ .setup → exec .start s = .next (settleClear s (s.reply ⟨2, [17, 0]⟩))) ∧
    (s.presence.state = .setup → s.lane.state ≠ .fault →
      let begun := ((s.setLocked true).setPresence
          { s.presence with state := .listen, listenTimer := .running 300 }).setConverter
        { turn := some .a
          plateA := { s.converter.plateA with phase := .zero, ticks := 0 }
          plateB := { s.converter.plateB with phase := .waiting, ticks := 0 } }
      let lane :=
        if s.presence.number ≠ 0 then begun
        else if s.lane.mode = .flow then (begun.setLane { s.lane with state := .flow }).openCommand false
        else begun.setLane { s.lane with state := .idle }
      exec .start s = .next (settleClear s
        ((if s.egress.input then (lane.enterEgress .own s.presence.number).queueEvacuation .egress else lane).reply
          ⟨1, []⟩)))

/-- R188: QUERY changes nothing but the port; the fields of every page in their order, and the refusals. -/
def Obligations.QueryGivesOnePage : Prop :=
  ∀ s : State, s.canTake = true →
    let bit (b : Bool) : Byte := if b then 1 else 0
    let byte (n : Nat) : Byte := BitVec.ofNat 8 n
    let plate (p : Plate) : List Byte :=
      [(match p.cls with | .empty => 0 | .occupied => 1 | .multiple => 2), bit p.fault] ++ countBytes p.reading
        ++ [(match p.result with | .none => 0 | .good => 1 | .overrange => 2 | .zeroFault => 3), byte p.bad,
            bit (p.settle == 2)]
    let towards (e : Option EndId) : Byte := match e with | none => 0 | some .openEnd => 1 | some .closedEnd => 2
    let peers (first : Nat) : List Byte :=
      ((List.range 8).map fun i =>
        let n : Station := BitVec.ofNat 4 (first + i)
        let e := s.presence.peer n
        [(match e.presence with | .unknown => 0 | .present => 1 | .absent => 2), bit e.egress]
          ++ match e.record with
            | none => [0, 0] ++ countBytes 0
            | some r =>
              [r.window, byteAt r.body 0] ++ countBytes (if n = 0 ∨ n = s.presence.number then 0 else wordAt r.body 12)).flatten
    let accounts (first count : Nat) : List Byte :=
      ((List.range count).map fun i =>
        let g := s.vessel.row (BitVec.ofNat 4 (first + i))
        countBytes g.granted ++ countBytes g.returned
          ++ [byte ((if g.due then 1 else 0) + (if g.lost then 2 else 0))]).flatten
    exec (.query 0) s = .next (s.reply ⟨1,
      [0, byte s.presence.number.toNat, bit (s.presence.number != 0),
        (match s.presence.state with | .setup => 0 | .listen => 1 | .active => 2 | .isolated => 3),
        byte s.link.lastSender.toNat, bit s.inEgress,
        (match s.egress.origin with | .none => 0 | .own => 1 | .peer => 2),
        bit s.egress.input, bit s.egress.endMark, byte s.events.records.length, s.events.mask.zeroExtend 8]⟩) ∧
    (s.presence.number ≠ 0 →
      exec (.query 1) s = .next (s.reply ⟨1,
        [1, (match s.view.state with | .none => 0 | .opened => 1 | .orphaned => 2 | .closed => 3), byte s.view.number,
          byte s.view.lastTallied, bit s.view.tallyPending]
        ++ countBytes s.account.granted ++ countBytes s.account.returned ++ countBytes s.account.charged
        ++ countBytes s.held ++ [byte s.account.reserved] ++ countBytes s.account.wanted
        ++ [(match s.account.claim with | .none => 0 | .background => 1 | .demand => 2), bit s.account.full,
            bit s.account.announced,
            (match s.admission.record with
              | none => 0
              | some p => match p.state with | .awaitPlaces => 1 | .awaitLink => 2),
            byte ((s.admission.record.map Presentation.number).getD 0),
            byte ((s.admission.record.map Presentation.cls).getD 0),
            byte ((s.admission.record.map Presentation.party).getD 0), byte s.admission.counter]⟩) ∧
      exec (.query 5) s = .next (s.reply ⟨2, [16, 0]⟩) ∧ exec (.query 6) s = .next (s.reply ⟨2, [16, 0]⟩)) ∧
    (s.presence.number = 0 →
      exec (.query 1) s = .next (s.reply ⟨1,
        [1, (match s.vessel.state with | .none => 0 | .opened => 1 | .closing => 2), byte s.vessel.number]
        ++ countBytes s.vessel.offer ++ countBytes s.config.capacity ++ countBytes s.vessel.onboard
        ++ countBytes s.vessel.remainder
        ++ [byte s.vessel.lastServed, bit s.vessel.fullRaised, bit s.vessel.tallyTimer.isRunning]⟩) ∧
      exec (.query 5) s = .next (s.reply ⟨1, 5 :: accounts 1 8⟩) ∧
      exec (.query 6) s = .next (s.reply ⟨1, 6 :: accounts 9 7⟩)) ∧
    exec (.query 2) s = .next (s.reply ⟨1,
      [2,
        (match s.lane.state with
          | .idle => 0 | .opening => 1 | .opened => 2 | .closing => 3 | .held => 4 | .fault => 5 | .egress => 6
          | .flow => 7),
        bit s.lane.holdPending, bit s.lane.settleMark, bit s.lane.recovery,
        (match s.lane.faultCause with
          | none => 0 | some .plateA => 1 | some .plateB => 2 | some .stall => 3 | some .travel => 4 | some .switch => 5),
        byte s.lane.remaining,
        (match s.lane.tracker.state with | .none => 0 | .entering => 1 | .crossing => 2 | .leaving => 3),
        (match s.lane.tracker.direction with | .forward => 0 | .reverse => 1)]
      ++ countBytes s.lane.paid ++ countBytes s.lane.unpaid ++ countBytes s.lane.excess
      ++ countBytes s.lane.egressPassages ++ [(match s.lane.mode with | .flow => 0 | .alight => 1 : Byte)]
      ++ plate s.converter.plateA ++ plate s.converter.plateB
      ++ [(match s.barrier.state with
            | .unknown => 0 | .closed => 1 | .opening => 2 | .opened => 3 | .closing => 4 | .paused => 5
            | .halted => 6 : Byte),
          (match s.barrier.output with | .off => 0 | .driveOpen => 1 | .driveClose => 2 | .brake => 3),
          towards (s.barrier.movement.map Movement.direction), byte s.barrier.retry, byte s.barrier.obstructions,
          bit s.barrier.latch, bit s.barrier.unconfirmed, towards s.barrier.reDrive]⟩) ∧
    exec (.query 3) s = .next (s.reply ⟨1, 3 :: peers 0⟩) ∧
    exec (.query 4) s = .next (s.reply ⟨1, 4 :: peers 8⟩) ∧
    ∀ page : Byte, 6 < page.toNat → exec (.query page) s = .next (s.reply ⟨2, [20, 1]⟩)

/-- R116, R194, R195, R192: LOOKUP gives the listed entry of the key with its position, or the entry count alone, and changes nothing
in the list. READ EVENT removes the oldest record, PEEK EVENT leaves it, both give its eleven bytes; SET MASK; and ATTN follows
the unmasked records. -/
def Obligations.ListAndEventsAreRead : Prop :=
  (∀ (s : State) (key : TicketKey), s.canTake = true →
     (∀ (before after : List ListEntry) (e : ListEntry), s.list.entries = before ++ e :: after → e.key = key →
       (∀ x ∈ before, x.key ≠ key) →
       exec (.lookup key) s = .next (s.reply
         ⟨4, [key.extractLsb' 24 8, key.extractLsb' 16 8, key.extractLsb' 8 8, key.extractLsb' 0 8,
             BitVec.ofNat 8 e.cls, BitVec.ofNat 8 e.party, BitVec.ofNat 8 e.station.toNat, BitVec.ofNat 8 e.window]
           ++ countBytes e.hold
           ++ [if e.origin = .own then 0 else 1, BitVec.ofNat 8 (before.length + 1),
               BitVec.ofNat 8 s.list.entries.length]⟩)) ∧
     ((∀ x ∈ s.list.entries, x.key ≠ key) →
       exec (.lookup key) s = .next (s.reply ⟨5, [BitVec.ofNat 8 s.list.entries.length]⟩))) ∧
  (∀ s : State, s.canTake = true → s.events.records = [] →
      exec .readEvent s = .next (s.reply ⟨7, []⟩) ∧ exec .peekEvent s = .next (s.reply ⟨7, []⟩)) ∧
    (∀ (s : State) (r : EventRecord) (rest : List EventRecord), s.canTake = true → s.events.records = r :: rest →
      let bytes : List Byte :=
        [BitVec.ofNat 8 r.kind.code, BitVec.ofNat 8 (r.kind.group + if r.lost then 128 else 0), r.sequence,
          r.time.extractLsb' 8 8, r.time.extractLsb' 0 8, r.arg1.extractLsb' 8 8, r.arg1.extractLsb' 0 8,
          r.arg2.extractLsb' 8 8, r.arg2.extractLsb' 0 8, r.arg3.extractLsb' 8 8, r.arg3.extractLsb' 0 8]
      exec .readEvent s = .next ((s.setEvents { s.events with records := rest }).reply
        ⟨8, bytes ++ [BitVec.ofNat 8 rest.length]⟩) ∧
      exec .peekEvent s = .next (s.reply ⟨8, bytes ++ [BitVec.ofNat 8 (rest.length + 1)]⟩)) ∧
    (∀ (s : State) (mask : Byte), s.canTake = true →
      (128 ≤ mask.toNat → exec (.setMask mask) s = .next (s.reply ⟨2, [20, 1]⟩)) ∧
      (mask.toNat < 128 →
        exec (.setMask mask) s = .next ((s.setEvents { s.events with mask := mask.truncate 7 }).reply
          ⟨1, [mask, BitVec.ofNat 8 s.events.records.length]⟩))) ∧
    ∀ s : State, s.attn = true ↔ ∃ r ∈ s.events.records, s.events.mask.getLsbD r.kind.group = false

/-! ## Presentations and the lane's requests -/

/-- R88: the seven checks of PRESENT in their order; a refused PRESENT changes nothing but the port. -/
def Obligations.PresentChecksInOrder : Prop :=
  ∀ (s : State) (key : TicketKey) (cls party : Byte), s.canTake = true →
    (s.presence.number = 0 → exec (.present key cls party) s = .next (settleClear s (s.reply ⟨2, [16, 0]⟩))) ∧
    (s.presence.number ≠ 0 →
      ∀ reason : Byte,
        reason =
          (if s.presence.state = .setup ∨ s.presence.state = .listen then 1
          else if s.egress.state = .egress then 2
          else if s.lane.state = .held ∨ s.lane.state = .fault ∨ s.lane.holdPending then 3
          else if s.lane.state ≠ .idle ∨ s.admission.record.isSome then 4
          else if 7 < cls.toNat ∨ party.toNat = 0 ∨ (s.classRecord cls.toNat).maxParty < party.toNat then 5
          else if s.view.state ≠ .opened then 6
          else if ∃ e ∈ s.list.entries, e.key = key then 7
          else 0) →
        reason ≠ 0 →
        exec (.present key cls party) s = .next (settleClear s (s.reply ⟨2, [reason, 0]⟩)))

/-- R89, R90, R92, R94: an accepted PRESENT is admitted at once, announced, or waits for places. -/
def Obligations.PresentIsAccepted : Prop :=
  ∀ (s : State) (key : TicketKey) (cls party : Byte), s.canTake = true → s.presence.number ≠ 0 →
    s.presence.state = .active ∨ s.presence.state = .isolated → s.egress.state = .normal →
    s.lane.state = .idle → s.lane.holdPending = false → s.admission.record = none → cls.toNat ≤ 7 →
    1 ≤ party.toNat → party.toNat ≤ (s.classRecord cls.toNat).maxParty → s.view.state = .opened →
    (∀ e ∈ s.list.entries, e.key ≠ key) →
    let n := if s.admission.counter < 255 then s.admission.counter + 1 else 0
    let p : Presentation :=
      { number := n, key := key, cls := cls.toNat, party := party.toNat, window := s.view.number,
        state := .awaitLink, stopCause := none }
    s.admission.counter ≤ 255 →
    (party.toNat ≤ s.held → (s.classRecord cls.toNat).holdTime = 0 → s.barrier.state = .closed →
      s.barrier.openSwitch = false →
      let lane :=
        { s.lane with
          state := .opening
          remaining := party.toNat
          passageWait :=
            if s.lane.tracker.state = .none then .running (s.config.passageWait * 1000)
            else .suspended (s.config.passageWait * 1000) }
      let barrier :=
        { s.barrier with
          output := .driveOpen, state := .opening, movement := some ⟨.openEnd, .command, false⟩, retry := 0,
          unconfirmed := false, pendingClose := false, reDrive := none, brakeTimer := .stopped,
          pauseTimer := .stopped, travelTimer := .running 1500 }
      exec (.present key cls party) s = .next (settleClear s
        ((((((s.setAccount { s.account with charged := s.account.charged + party.toNat, reserved := 0 }).setLane
                lane).setBarrier barrier).raise .admitted n party.toNat s.view.number).setAdmission
              { record := none, counter := n, lastDecided := some n }).backgroundCheck.reply
          ⟨3, [BitVec.ofNat 8 n]⟩))) ∧
    (party.toNat ≤ s.held → (s.classRecord cls.toNat).holdTime ≠ 0 → (∀ e ∈ s.link.queue, e.kind ≠ .ticket) →
      exec (.present key cls party) s = .next (settleClear s
        ((((s.setAccount { s.account with reserved := party.toNat }).setAdmission
            { s.admission with record := some p, counter := n }).setLink
          { s.link with
            queue := s.link.queue ++
              [{ kind := .ticket, sending := false, attempts := 0, requeue := false,
                 ticket := some ⟨s.view.number, key, cls.toNat, party.toNat⟩ }] }).reply
          ⟨3, [BitVec.ofNat 8 n]⟩))) ∧
    (s.held < party.toNat →
      let waiting := s.setAdmission
        { s.admission with record := some { p with state := .awaitPlaces }, counter := n }
      let total := s.account.granted + max s.config.creditBlock (party.toNat - s.held)
      let claiming (wanted : Nat) (repeatTimer : Timer) :=
        (waiting.setAccount
          { s.account with
            claim := .demand, wanted := wanted, waitTimer := .running 250, repeatTimer := repeatTimer }).queueKind .claim
      exec (.present key cls party) s = .next (settleClear s
        ((if s.account.claim ≠ .none then claiming (max s.account.wanted total) s.account.repeatTimer
          else if s.account.announced then claiming total (.running 60)
          else waiting.setAccount { s.account with kept := some party.toNat }).reply ⟨3, [BitVec.ofNat 8 n]⟩)))

/-- R98, R95: CANCEL by the presentation it names, with what a refusal does. -/
def Obligations.CancelAndRefusal : Prop :=
  (∀ (s : State) (number : Byte), s.canTake = true → s.presence.number ≠ 0 →
    (∀ p, s.admission.record = some p → p.number = number.toNat →
      (p.state = .awaitLink → (∃ e ∈ s.link.queue, e.kind = .ticket ∧ e.sending = true) →
        exec (.cancel number) s = .next (settleClear s (s.reply ⟨6, []⟩))) ∧
      (p.state = .awaitPlaces ∨ (∀ e ∈ s.link.queue, e.kind = .ticket → e.sending = false) →
        exec (.cancel number) s = .next (settleClear s ((s.refuse .cancelled 0).reply ⟨1, []⟩)))) ∧
    ((∀ p, s.admission.record = some p → p.number ≠ number.toNat) →
      exec (.cancel number) s = .next (settleClear s
        (s.reply (if s.admission.lastDecided = some number.toNat then ⟨6, []⟩ else ⟨5, []⟩))))) ∧
    ∀ (s : State) (p : Presentation) (reason : Reason) (detail : Nat), s.admission.record = some p →
      let t := s.refuse reason detail
      t.admission = { s.admission with record := none, lastDecided := some p.number } ∧
        t.account.charged = s.account.charged ∧ t.account.granted = s.account.granted ∧ t.account.kept = none ∧
        t.lane.remaining = s.lane.remaining ∧ t.barrier = s.barrier ∧ t.view = s.view ∧ t.list = s.list ∧
        (p.state = .awaitLink → t.account.reserved = 0 ∧ ∀ e ∈ t.link.queue, e.kind = .ticket → e.sending = true) ∧
        (s.lane.state ≠ .idle ∨ s.lane.holdPending = false →
          t.account.claim = s.account.claim ∧ t.lane = s.lane ∧
            t.events = s.events.raise .refused (word16 p.number) (word16 reason.code) (word16 detail)) ∧
        (s.isGate = true → s.lane.state = .idle → s.lane.holdPending = true →
          t.lane = { s.lane with state := .held, holdPending := false } ∧ t.account.claim = .none)

/-- R125, R83, R79, R72, R99 to R103, R91, R94, R121, R92: the operations that the requests, faults, views and egress share at the admission unit and
the place account: a return, a refund by role and return state, the stop of a presentation with its stop cause noted on a SENDING
TICKET, the abort by egress, the report of a claim's end, the admission of a party in every lane and barrier state (remaining set
whatever it was, log entry 31), and the entry into AWAIT_LINK. -/
def Obligations.RefundsReturnsAndStops : Prop :=
  ∀ s : State,
    let held := s.account.granted - s.account.returned - s.account.charged
    let sendingTicket := ∃ e ∈ s.link.queue, e.kind = .ticket ∧ e.sending = true
    (s.view.state = .none ∨ held ≤ s.account.reserved → s.returnFree = s) ∧
    (s.view.state ≠ .none → s.account.reserved < held →
      s.returnFree = (s.setAccount
        { s.account with returned := s.account.returned + (held - s.account.reserved) }).statusTrigger) ∧
    (s.account.claim = .none → s.enterReturn = s.returnFree) ∧
    (s.account.claim ≠ .none →
      s.enterReturn = ((s.setAccount
        { s.account with claim := .none, waitTimer := .stopped, repeatTimer := .stopped }).withdraw .claim).returnFree) ∧
    (∀ cause : RefundCause,
      let n := s.lane.remaining
      let code := match cause with | .wait => 0 | .restart => 1 | .egress => 2 | .abandoned => 3
      let ended := s.setLane { s.lane with remaining := 0, passageWait := .stopped }
      let lowered := ended.setAccount { s.account with charged := s.account.charged - n }
      let told :=
        if s.lane.state = .held ∨ s.lane.state = .fault ∨ s.egress.state = .egress then lowered.returnFree
        else lowered.backgroundCheck
      (n = 0 → s.refund cause = s) ∧
      (n ≠ 0 → s.presence.number = 0 → s.refund cause = ended.raise .passageExpired n code) ∧
      (n ≠ 0 → s.presence.number ≠ 0 →
        s.refund cause =
          if s.view.state = .closed ∧ s.view.tallyPending = false ∧ s.lane.tracker.state = .none then
            ((told.raise .passageExpired n code).queueKind .tally).setView { s.view with tallyPending := true }
          else told.raise .passageExpired n code)) ∧
    (∀ cause : StopCause,
      let reason : Reason :=
        match cause with
        | .windowClosed => .windowClosed
        | .laneRestart => .laneRestart
        | .laneUnavailable => .laneUnavailable
      (s.admission.record = none → s.stopPresentation cause = s) ∧
      ∀ p, s.admission.record = some p →
        (p.state = .awaitLink → sendingTicket →
          s.stopPresentation cause = s.setAdmission
            { s.admission with
              record := some
                { p with stopCause := some (match p.stopCause with | none => cause | some first => first) } }) ∧
        (p.state = .awaitPlaces ∨ ¬sendingTicket → s.stopPresentation cause = s.refuse reason 0)) ∧
    (sendingTicket →
      s.abortPresentation = (s.setLink
        { s.link with
          queue := s.link.queue.filter fun e => e.kind != .ticket
          txFrame := none, hunt := .hunt, buffer := [], ones := 0 }).refuse .egress 0) ∧
    (¬sendingTicket → s.abortPresentation = (s.withdraw .ticket).refuse .egress 0) ∧
    (∀ cause : ClaimCause,
      let ended := (s.setAccount
        { s.account with claim := .none, waitTimer := .stopped, repeatTimer := .stopped }).withdraw .claim
      (s.account.claim = .background → s.endClaimWith cause = ended) ∧
      (s.account.claim = .demand →
        ((∀ p, s.admission.record = some p → p.state = .awaitLink) → s.endClaimWith cause = ended) ∧
        ∀ p, s.admission.record = some p → p.state = .awaitPlaces →
          (p.party ≤ held → (s.classRecord p.cls).holdTime = 0 →
            s.endClaimWith cause = ended.admitParty p.number p.party p.window) ∧
          (p.party ≤ held → (s.classRecord p.cls).holdTime ≠ 0 → s.endClaimWith cause = ended.awaitLink p) ∧
          (held < p.party → s.endClaimWith cause = ended.refuse (if cause = .expired then .noGrant else .full) held))) ∧
    (∀ number party window : Nat,
      let charged := s.setAccount { s.account with charged := s.account.charged + party, reserved := 0 }
      let lane :=
        { s.lane with
          remaining := party
          passageWait :=
            if s.lane.tracker.state = .none then .running (s.config.passageWait * 1000)
            else .suspended (s.config.passageWait * 1000) }
      let decided (u : State) : State := ((u.raise .admitted number party window).setAdmission
        { s.admission with record := none, lastDecided := some number }).backgroundCheck
      (s.lane.state = .idle →
        s.admitParty number party window =
          decided ((charged.setLane { lane with state := .opening }).openCommand false)) ∧
      (s.lane.state ≠ .idle → s.admitParty number party window = decided (charged.setLane lane))) ∧
    ∀ p : Presentation, s.awaitLink p =
      ((s.setAccount { s.account with reserved := p.party }).setAdmission
        { s.admission with record := some { p with state := .awaitLink } }).setLink
          (s.link.queueTicket ⟨p.window, p.key, p.cls, p.party⟩)

/-- R134, R135: HOLD, effective at once in IDLE with no presentation, else pending; what becoming effective does. -/
def Obligations.HoldRequest : Prop :=
  ∀ s : State, s.canTake = true →
    (s.presence.number = 0 → exec .hold s = .next (settleClear s (s.reply ⟨2, [16, 0]⟩))) ∧
    (s.presence.number ≠ 0 →
      (s.lane.state = .held → exec .hold s = .next (settleClear s (s.reply ⟨1, [1]⟩))) ∧
      (s.lane.state ≠ .held → s.lane.holdPending = true →
        exec .hold s = .next (settleClear s (s.reply ⟨1, [0]⟩))) ∧
      (s.lane.state = .idle → s.lane.holdPending = false → s.admission.record = none →
        let held := s.setLane { s.lane with state := .held, holdPending := false }
        let ended :=
          if s.account.claim = .none then held
          else (held.setAccount
            { s.account with claim := .none, waitTimer := .stopped, repeatTimer := .stopped }).withdraw .claim
        let back :=
          if s.view.state = .none ∨ s.freeCredits = 0 then ended
          else (ended.setAccount
            { ended.account with returned := s.account.returned + s.freeCredits }).statusTrigger
        exec .hold s = .next (settleClear s ((back.raise .holdEffective back.account.returned).reply ⟨1, [1]⟩))) ∧
      (s.lane.state ≠ .held → s.lane.holdPending = false → s.lane.state ≠ .idle ∨ s.admission.record ≠ none →
        exec .hold s = .next (settleClear s
          ((s.setLane { s.lane with holdPending := true }).reply ⟨1, [0]⟩))))

/-- R136: RELEASE takes HELD to IDLE, clears a pending hold, or is refused; it changes nothing else and raises no event. -/
def Obligations.ReleaseRequest : Prop :=
  ∀ s : State, s.canTake = true →
    (s.presence.number = 0 → exec .release s = .next (s.reply ⟨2, [16, 0]⟩)) ∧
    (s.presence.number ≠ 0 →
      (s.lane.state = .held →
        exec .release s = .next ((s.setLane { s.lane with state := .idle }).reply ⟨1, []⟩)) ∧
      (s.lane.state ≠ .held → s.lane.holdPending = true →
        exec .release s = .next ((s.setLane { s.lane with holdPending := false }).reply ⟨1, []⟩)) ∧
      (s.lane.state ≠ .held → s.lane.holdPending = false → exec .release s = .next (s.reply ⟨2, [17, 0]⟩)))

/-- R140, R156, R171: CLEAR FAULT begins recovery in FAULT, clears a recorded fault in EGRESS, and is refused otherwise. In SETUP the
lane issues no command (R120), and START gives a recovering FLOW lane its open command (log entry 24).
The order of the event and the open command in EGRESS is log entry 5. -/
def Obligations.ClearFaultRequest : Prop :=
  ∀ s : State, s.canTake = true →
    let clean (p : Plate) : Plate := if p.fault then { p with fault := false, bad := 0 } else p
    let barrier :=
      if s.barrier.latch then
        if s.barrier.state = .halted then
          { s.barrier with latch := false, state := .unknown, output := .off, pendingClose := false }
        else { s.barrier with latch := false }
      else s.barrier
    let cleared := (s.setConverter
      { s.converter with plateA := clean s.converter.plateA, plateB := clean s.converter.plateB }).setBarrier barrier
    (s.lane.state = .fault → s.barrier.egressMark = false →
      (s.lane.recovery = true → exec .clearFault s = .next (settleClear s (cleared.reply ⟨1, []⟩))) ∧
      (s.lane.recovery = false →
        let begun := cleared.setLane { s.lane with recovery := true }
        exec .clearFault s = .next (settleClear s
          ((if s.presence.number = 0 ∧ s.lane.mode = .flow ∧ s.presence.state ≠ .setup then begun.openCommand false
            else begun).reply ⟨1, []⟩)))) ∧
    (s.lane.state = .egress → s.lane.faultCause ≠ none →
      let begun := cleared.setLane { s.lane with faultCause := none }
      exec .clearFault s = .next (settleClear s
        (((if s.barrier.latch ∧ s.barrier.state = .halted ∧ s.barrier.egressMark then begun.openCommand true
            else begun).raise .faultCleared).reply ⟨1, []⟩))) ∧
    (s.lane.state ≠ .fault → s.lane.state ≠ .egress ∨ s.lane.faultCause = none →
      exec .clearFault s = .next (settleClear s (s.reply ⟨2, [17, 0]⟩)))

/-- R141, R158, R175: LANE RESTART: the presentation refused LANE_RESTART or its stop cause noted (R102, R99), the remaining passages
refunded with cause RESTART (R83, R125), the lane, the plates and the barrier back at their beginnings, FAULT CLEARED out of
FAULT, a FLOW lane commanded open, and the hold check; the rest is left. The filtered switches kept are log entry 7, the order of
the blocks log entry 5. -/
def Obligations.LaneRestartRequest : Prop :=
  ∀ s : State, s.canTake = true →
    (s.presence.state = .setup ∨ s.lane.state = .egress →
      exec .laneRestart s = .next (settleClear s (s.reply ⟨2, [17, 0]⟩))) ∧
    (s.presence.state ≠ .setup → s.lane.state ≠ .egress →
      let flow := s.presence.number = 0 ∧ s.lane.mode = .flow
      let refunded := (if s.presence.number = 0 then s else s.stopPresentation .laneRestart).refund .restart
      let fresh (p : Plate) (phase : Phase) : Plate :=
        { p with
          phase := phase, ticks := 0, cls := .empty, candidate := none, candidateRun := 0, bad := 0, fault := false,
          settle := 0 }
      let begun := ((refunded.setLane
          { refunded.lane with
            state := if flow then .flow else if s.presence.number ≠ 0 ∧ refunded.lane.state = .held then .held else .idle
            tracker := { refunded.lane.tracker with state := .none, armed := false, multiple := false, exited := false }
            passageWait := .stopped, clearTimer := .stopped, loiterA := .stopped, loiterB := .stopped,
            faultCause := none, recovery := false, settleMark := true }).setConverter
        { turn := some .a, plateA := fresh s.converter.plateA .zero, plateB := fresh s.converter.plateB .waiting }).setBarrier
        { state := .unknown, output := .off, movement := none, retry := 0, obstructions := 0, latch := false,
          unconfirmed := false, pendingClose := false, reDrive := none, egressMark := s.barrier.egressMark,
          brakeTimer := .stopped, travelTimer := .stopped, pauseTimer := .stopped, reDriveTimer := .stopped,
          openSwitch := s.barrier.openSwitch, closedSwitch := s.barrier.closedSwitch }
      let told := if s.lane.state = .fault then begun.raise .faultCleared else begun
      let opened := if flow then told.openCommand false else told
      let tallied :=
        if s.presence.number ≠ 0 ∧ opened.view.state = .closed ∧ opened.view.tallyPending = false then
          (opened.queueKind .tally).setView { opened.view with tallyPending := true }
        else opened
      let after :=
        if s.presence.number ≠ 0 ∧ tallied.lane.state = .idle ∧ tallied.admission.record = none ∧
            tallied.lane.holdPending = true then
          let held := (tallied.setLane { tallied.lane with state := .held, holdPending := false }).enterReturn
          held.raise .holdEffective held.account.returned
        else tallied
      exec .laneRestart s = .next (settleClear s (after.reply ⟨1, []⟩)) ∧
        (s.lane.remaining ≠ 0 → s.presence.number ≠ 0 → s.admission.record = none →
          refunded.account.charged = s.account.charged - s.lane.remaining ∧
            refunded.events = s.events.raise .passageExpired (word16 s.lane.remaining) 1 0) ∧
        (flow → after.lane.state = .flow ∧ after.barrier.state = if s.barrier.openSwitch then .opened else .opening) ∧
        (s.admission.record = none → s.lane.holdPending = true → s.presence.number ≠ 0 → s.lane.state ≠ .held →
          after.lane.state = .held ∧ after.lane.holdPending = false) ∧
        (after.lane.state ≠ .held ∨ s.lane.state = .held → after.lane.holdPending = s.lane.holdPending) ∧
        after.lane.remaining = 0 ∧ after.lane.paid = s.lane.paid ∧ after.lane.unpaid = s.lane.unpaid ∧
        after.lane.excess = s.lane.excess ∧ after.lane.egressPassages = s.lane.egressPassages ∧
        after.lane.mode = s.lane.mode ∧ after.account.granted = s.account.granted ∧
        after.view.state = s.view.state ∧ after.view.number = s.view.number ∧ after.config = s.config ∧
        after.locked = s.locked ∧ after.presence = s.presence ∧ after.vessel = s.vessel ∧ after.list = s.list ∧
        after.egress = s.egress ∧ after.port = s.port ∧ after.pending = s.pending)

/-! ## The vessel station's requests -/

/-- R44, R45: OPEN WINDOW refused by the first row that applies, or taken. -/
def Obligations.OpenWindowRequest : Prop :=
  ∀ s : State, s.canTake = true →
    (s.presence.number ≠ 0 → exec .openWindow s = .next (settleClear s (s.reply ⟨2, [16, 0]⟩))) ∧
    (s.presence.number = 0 →
      (s.vessel.state ≠ .none ∨ s.presence.state ≠ .active ∨ s.egress.state = .egress →
        exec .openWindow s = .next (settleClear s (s.reply ⟨2, [17, 0]⟩))) ∧
      (s.vessel.state = .none → s.presence.state = .active → s.egress.state = .normal →
        (s.config.capacity ≤ s.vessel.onboard →
          exec .openWindow s = .next (settleClear s (s.reply ⟨2, [18, 0]⟩))) ∧
        (s.vessel.onboard < s.config.capacity →
          let offer := s.config.capacity - s.vessel.onboard
          let number := if s.vessel.number = 255 then 1 else s.vessel.number + 1
          let opened := (((s.takeFlow.setVessel
              { s.vessel with
                state := .opened, number := number, offer := offer, record := none,
                gates := Vector.replicate 15
                  { paid := 0, unpaid := 0, excess := 0, final := false, granted := 0, returned := 0, due := false,
                    lost := false },
                remainder := offer, lastServed := 0, fullRaised := false }).queueKind .offer).queueKind .status).raise
            .windowOpened number offer
          exec .openWindow s = .next (settleClear s
            (opened.reply ⟨1, BitVec.ofNat 8 number :: countBytes offer⟩)))))

/-- R47: CLOSE WINDOW refused by role and by window state, or taken in OPEN whatever the station and egress states. -/
def Obligations.CloseWindowRequest : Prop :=
  ∀ s : State, s.canTake = true →
    (s.presence.number ≠ 0 → exec .closeWindow s = .next (s.reply ⟨2, [16, 0]⟩)) ∧
    (s.presence.number = 0 →
      (s.vessel.state ≠ .opened → exec .closeWindow s = .next (s.reply ⟨2, [17, 0]⟩)) ∧
      (s.vessel.state = .opened →
        exec .closeWindow s = .next ((s.closeWindow .request).reply ⟨1, [BitVec.ofNat 8 s.vessel.number]⟩)))

/-- R48, R52, R53: what closing does, with the window's completion at once when every gate granted places is final; and the tally
timer's expiry in CLOSING. -/
def Obligations.WindowsCloseAndComplete : Prop :=
  (∀ (s : State) (cause : CloseCause), s.vessel.state = .opened →
    let closing :=
      (((s.queueKind .close).setVessel { s.vessel with state := .closing, tallyTimer := .running 1500 }).statusTrigger).raise
        .windowClosing s.vessel.number (match cause with | .request => 0 | .isolation => 1 | .egress => 2)
    ((∃ g ∈ s.vessel.gates.toList, 0 < g.granted ∧ g.final = false) → s.closeWindow cause = closing) ∧
    ((∀ g ∈ s.vessel.gates.toList, 0 < g.granted → g.final = true) →
      s.closeWindow cause = closing.completeWindow true)) ∧
    (∀ s : State, s.vessel.state = .closing → s.vessel.tallyTimer.isRunning = true →
      exec .tallyTimerExpiry s = .next (s.completeWindow false)) ∧
    ∀ (s : State) (complete : Bool),
      let boarded := min (s.vessel.gates.toList.map fun g => g.paid + g.unpaid).sum 65535
      let excess := min (s.vessel.gates.toList.map fun g => g.excess).sum 65535
      let onboard := min (s.vessel.onboard + boarded) 65535
      let done :=
        ((s.setVessel
            { s.vessel with
              onboard := onboard, tallyTimer := .stopped, state := .none,
              record := some
                { window := s.vessel.number
                  rows := s.vessel.gates.map fun g =>
                    { paid := g.paid, unpaid := g.unpaid, excess := g.excess, final := g.final } } }).raise .tally
          (if complete then s.vessel.number + 256 else s.vessel.number) boarded excess).statusTrigger
      s.completeWindow complete =
        if s.config.capacity < onboard then done.raise .overCapacity onboard s.config.capacity else done

/-- R43: SET ONBOARD in both roles, every window state and every station state. -/
def Obligations.SetOnboardRequest : Prop :=
  ∀ (s : State) (count : Word16), s.canTake = true →
    (s.presence.number ≠ 0 → exec (.setOnboard count) s = .next (s.reply ⟨2, [16, 0]⟩)) ∧
    (s.presence.number = 0 →
      (s.vessel.state = .none →
        let t := s.setVessel { s.vessel with onboard := count.toNat }
        exec (.setOnboard count) s = .next
          ((if s.config.capacity < count.toNat then t.raise .overCapacity count.toNat s.config.capacity else t).reply
            ⟨1, []⟩)) ∧
      (s.vessel.state ≠ .none → exec (.setOnboard count) s = .next (s.reply ⟨2, [17, 0]⟩)))

/-- R143: SET LANE MODE refused by the first row that applies, or taken, with what taking FLOW and taking ALIGHT do. The open command
for a recovery that FLOW is taken in is log entry 30. -/
def Obligations.SetLaneModeRequest : Prop :=
  ∀ (s : State) (mode : Byte), s.canTake = true →
    (s.presence.number ≠ 0 → exec (.setLaneMode mode) s = .next (settleClear s (s.reply ⟨2, [16, 0]⟩))) ∧
    (s.presence.number = 0 →
      (s.vessel.state ≠ .none → exec (.setLaneMode mode) s = .next (settleClear s (s.reply ⟨2, [17, 0]⟩))) ∧
      (s.vessel.state = .none → 1 < mode.toNat →
        exec (.setLaneMode mode) s = .next (settleClear s (s.reply ⟨2, [20, 1]⟩))) ∧
      (s.vessel.state = .none →
        (s.lane.mode = .flow → exec (.setLaneMode 0) s = .next (settleClear s (s.reply ⟨1, []⟩))) ∧
        (s.lane.mode = .alight → exec (.setLaneMode 1) s = .next (settleClear s (s.reply ⟨1, []⟩))) ∧
        (s.lane.mode = .alight → s.presence.state = .setup →
          exec (.setLaneMode 0) s =
            .next (settleClear s ((s.setLane { s.lane with mode := .flow }).reply ⟨1, []⟩))) ∧
        (s.lane.mode = .alight → s.presence.state ≠ .setup →
          let calm :=
            { s.lane with
              mode := .flow
              tracker := { s.lane.tracker with state := .none, armed := false, multiple := false, exited := false }
              passageWait := s.lane.passageWait.resume
              clearTimer := .stopped, loiterA := .stopped, loiterB := .stopped }
          exec (.setLaneMode 0) s = .next (settleClear s
            ((if s.lane.state = .idle ∨ s.lane.state = .opening ∨ s.lane.state = .opened ∨ s.lane.state = .closing then
                (s.setLane { calm with state := .flow }).openCommand false
              else if s.lane.state = .fault ∧ s.lane.recovery = true then (s.setLane calm).openCommand false
              else s.setLane calm).reply ⟨1, []⟩))) ∧
        (s.lane.mode = .flow →
          exec (.setLaneMode 1) s = .next (settleClear s
            ((s.setLane
              { s.lane with
                mode := .alight
                state := if s.presence.state ≠ .setup ∧ s.lane.state = .flow then .opened else s.lane.state }).reply
              ⟨1, []⟩)))))

/-! ## Egress -/

/-- R177, R178: the ways into egress, and what the entry does: EGRESS BEGAN; the passages refunded with cause EGRESS and returned with
the other free credits (R142, R79, R83); a presentation refused EGRESS, its TICKET withdrawn or aborted (R101, R23); the claim
ended (R72); the barrier commanded open (R162, R166, R174); a window closed (R48); a gate's STATUS queued (R37). A gate's vessel half
rests (R26), so its window is not open. The order of the blocks within the entry is log entry 5, and so is that of the window and
place account units before the egress unit for a STATUS with the egress flag (R6 leaves it open). -/
def Obligations.EgressIsEntered : Prop :=
  let entry (u : State) (origin : EgressOrigin) (station : Station) : State :=
    let began := (u.setEgress { u.egress with state := .egress, origin := origin, endMark := false }).raise .egressBegan
      (match origin with | .none => 0 | .own => 1 | .peer => 2) station.toNat
    let refunded := began.refund .egress
    let aborted := (refunded.setLane
      { refunded.lane with
        state := .egress, holdPending := u.lane.holdPending || u.lane.state == .held, recovery := false,
        clearTimer := .stopped, passageWait := .stopped }).abortPresentation
    let returned := if u.presence.number = 0 then aborted else aborted.enterReturn
    let marked := returned.setBarrier { returned.barrier with egressMark := true }
    let turned :=
      if marked.barrier.state = .closing then marked.setBarrier marked.barrier.reversed else marked
    let closed := (turned.openCommand true).closeWindow .egress
    if u.presence.number = 0 then closed else closed.statusTrigger
  (∀ (u : State) (origin : EgressOrigin) (station : Station), u.barrierSafe → u.barrier.sound →
    let t := entry u origin station
    t.egress.state = .egress ∧ t.egress.origin = origin ∧ t.egress.endMark = false ∧
      t.lane.state = .egress ∧ t.lane.remaining = 0 ∧ t.lane.passageWait = .stopped ∧ t.lane.clearTimer = .stopped ∧
      t.lane.recovery = false ∧ t.lane.holdPending = (u.lane.holdPending || u.lane.state == .held) ∧
      t.lane.faultCause = u.lane.faultCause ∧ t.lane.paid = u.lane.paid ∧ t.lane.unpaid = u.lane.unpaid ∧
      t.lane.excess = u.lane.excess ∧ t.admission.record = none ∧ (∀ e ∈ t.link.queue, e.kind ≠ .ticket) ∧
      (u.presence.number ≠ 0 →
        let charged := u.account.charged - u.lane.remaining
        let reserved := if u.admission.record.any (fun p => p.state == .awaitLink) then 0 else u.account.reserved
        let n := u.lane.remaining
        let began := u.events.raise .egressBegan
          (match origin with | .none => 0 | .own => 1 | .peer => 2) (word16 station.toNat) 0
        let expired := if n = 0 then began else began.raise .passageExpired (word16 n) 2 0
        t.account.claim = .none ∧ t.account.granted = u.account.granted ∧ t.account.charged = charged ∧
          t.account.reserved = reserved ∧
          (u.view.state ≠ .none →
            t.account.returned =
              u.account.returned + (u.account.granted - u.account.returned - charged - reserved)) ∧
          (u.vessel.state ≠ .opened →
            t.events =
              match u.admission.record with
              | none => expired
              | some p => expired.raise .refused (word16 p.number) 2 0) ∧
          (u.presence.state = .active ∨ u.presence.state = .isolated → ∃ e ∈ t.link.queue, e.kind = .status)) ∧
      ((∃ e ∈ u.link.queue, e.kind = .ticket ∧ e.sending = true) →
        t.link.txFrame = none ∧ t.link.hunt = .hunt ∧ t.link.buffer = []) ∧
      t.barrier.egressMark = true ∧ (t.barrier.state = .opening ∨ t.barrier.state = .opened) ∧
      t.barrier.output ≠ .driveClose ∧ t.vessel.state ≠ .opened ∧
      t.config = u.config ∧ t.locked = u.locked ∧ t.port = u.port ∧ t.presence = u.presence ∧ t.list = u.list ∧
      t.converter = u.converter ∧ t.pending = u.pending) ∧
  ∀ s : State,
    (s.egress.input = false → s.egress.state = .normal → s.presence.state ≠ .setup →
      exec .egressInputActive s = .next (settleClear s
        ((entry (s.setEgress { s.egress with input := true }) .own s.presence.number).queueEvacuation .egress))) ∧
    (s.egress.input = false → s.presence.state = .setup →
      exec .egressInputActive s = .next (settleClear s (s.setEgress { s.egress with input := true }))) ∧
    (s.egress.input = false → s.presence.state ≠ .setup → s.egress.state = .egress → s.egress.origin = .peer →
      exec .egressInputActive s = .next (settleClear s
        ((s.setEgress { s.egress with input := true, origin := .own }).queueEvacuation .egress))) ∧
    exec .egressInputInactive s = .next (s.setEgress { s.egress with input := false }) ∧
    (∀ g : Station, s.hears g →
      (s.egress.state = .normal →
        exec (.egressFrame g 0 []) s = .next (settleClear s (entry (s.delivered g) .peer g))) ∧
      (s.egress.state = .egress → exec (.egressFrame g 0 []) s = .next (settleClear s (s.delivered g)))) ∧
    ∀ (g : Station) (window : Byte) (body : List Byte), s.hears g → formatCheck .status g window body = true →
      statusEgressFlag body = true →
      let r := (s.delivered g).recordStatus g window body
      let taken :=
        if s.presence.number = 0 then r.gateStatusHeard g window (GateStatus.ofBody body)
        else if g = 0 then r.vesselStatusHeard window body
        else r
      exec (.statusFrame g window body) s = .next (settleClear s
        (if s.egress.state = .egress ∨ s.egress.endMark = true then taken else entry taken .peer g))

/-- R180, R181, R142: EGRESS END by request and by frame. The lane goes to FAULT on a recorded cause, entered as R138 says but with no
LANE FAULT; to FLOW; or to OPEN. The order of the blocks is log entry 5. -/
def Obligations.EgressIsLeft : Prop :=
  let left (u : State) (cause : Nat) (station : Station) : State :=
    let a := (u.setEgress { u.egress with state := .normal, origin := .none }).setBarrier
      { u.barrier with egressMark := false }
    let laneLeft :=
      if u.lane.faultCause = none then
        a.setLane { u.lane with state := if u.presence.number = 0 ∧ u.lane.mode = .flow then .flow else .opened }
      else
        let faulted := a.setLane { u.lane with state := .fault, clearTimer := .stopped }
        if u.presence.number = 0 then faulted else (faulted.stopPresentation .laneUnavailable).enterReturn
    let ended := laneLeft.raise .egressEnded u.lane.egressPassages cause station.toNat
    let cleared := ended.setLane { ended.lane with egressPassages := 0 }
    if u.presence.number = 0 then cleared else cleared.statusTrigger
  (∀ s : State, s.canTake = true →
    (s.egress.input = true → exec .egressEnd s = .next (settleClear s (s.reply ⟨2, [24, 0]⟩))) ∧
    (s.egress.input = false → s.egress.state = .normal →
      exec .egressEnd s = .next (settleClear s (s.reply ⟨2, [17, 0]⟩))) ∧
    (s.egress.input = false → s.egress.state = .egress →
      let t := (left s 1 s.presence.number).queueEvacuation .egressEnd
      exec .egressEnd s = .next (settleClear s ((t.setEgress { t.egress with endMark := true }).reply ⟨1, []⟩)))) ∧
  (∀ (s : State) (g : Station), s.hears g →
    (s.egress.state = .normal → exec (.egressEndFrame g 0 []) s = .next (settleClear s (s.delivered g))) ∧
    (s.egress.state = .egress → s.egress.input = true →
      exec (.egressEndFrame g 0 []) s = .next (settleClear s ((s.delivered g).queueEvacuation .egress))) ∧
    (s.egress.state = .egress → s.egress.input = false →
      exec (.egressEndFrame g 0 []) s = .next (settleClear s (left (s.delivered g) 2 g)))) ∧
  ∀ (u : State) (cause : Nat) (station : Station),
    let t := left u cause station
    t.egress.state = .normal ∧ t.egress.origin = .none ∧ t.egress.endMark = u.egress.endMark ∧
      t.barrier = { u.barrier with egressMark := false } ∧ t.lane.egressPassages = 0 ∧
      t.lane.faultCause = u.lane.faultCause ∧ (u.lane.faultCause ≠ none → t.lane.state = .fault) ∧
      (u.admission.record = none →
        t.events = u.events.raise .egressEnded (word16 u.lane.egressPassages) (word16 cause) (word16 station.toNat))

/-! ## The link controller -/

/-- R24: SELFTEST is taken in SETUP and its reply waits for the test's end; then the bits that came back decide it, in R24's order, and
the bits of the part's own TEST frame give PASS. That two flags among the bits may share a 0 is the model's choice (log entry 32). -/
def Obligations.SelftestReply : Prop :=
  (∀ s : State, s.canTake = true →
    (s.presence.state = .setup →
      exec .selftest s = .next ((s.setPort
          { s.port with state := .work, request := [], reply := [], offered := false, shifted := 0 }).setLink
        { s.link with hunt := .hunt, buffer := [], ones := 0, loopback := true })) ∧
    (s.presence.state ≠ .setup → exec .selftest s = .next (s.reply ⟨2, [17, 0]⟩))) ∧
  ∀ (s : State) (received : List Bool), s.link.loopback = true →
    let ended := s.setLink { s.link with hunt := .hunt, buffer := [], ones := 0, loopback := false }
    let found := deframe (.hunting none) (received.take 320)
    (found = none → exec (.selftestEnd received) s = .next (ended.reply ⟨10, [1]⟩)) ∧
    (∀ content, found = some content →
      let bytes := contentBytes content
      (content.length % 8 ≠ 0 ∨ bytes.length < 5 ∨ 29 < bytes.length ∨ natAt bytes 2 + 5 ≠ bytes.length ∨
          natAt bytes 2 ≠ 16 →
        exec (.selftestEnd received) s = .next (ended.reply ⟨10, [3]⟩)) ∧
      (content.length % 8 = 0 → bytes.length = 21 → natAt bytes 2 = 16 →
        exec (.selftestEnd received) s = .next (ended.reply
          (if bytes = (testFrame s.presence.number).content then ⟨9, []⟩ else ⟨10, [2]⟩)))) ∧
    (received = (testFrame s.presence.number).lineBits →
      exec (.selftestEnd received) s = .next (ended.reply ⟨9, []⟩))

/-- R3, R5, R11, R13, R14, R21: the line and receiver events, and the start of a transmission: the frame that each kind is built as, or
the removal of an entry whose owner has nothing to send (the idle timer's reading after it is log entry 22). An empty content is
no frame's end (R3), so it makes no BAD_FRAME (log entry 1). -/
def Obligations.LineEventsAndStarts : Prop :=
  ∀ s : State,
    (s.link.lineIdle = false →
      exec .lineIdle s = .next (s.setLink { s.link with lineIdle := true, idleTimer := 0 })) ∧
    exec .lineBusy s = .next (s.setLink { s.link with lineIdle := false, idleTimer := 0 }) ∧
    (s.link.loopback = false →
      (s.link.hunt = .hunt →
        exec .openingFlagFound s = .next (s.setLink { s.link with hunt := .frame, buffer := [], ones := 0 })) ∧
      exec .frameAbortHeard s = .next (s.setLink { s.link with hunt := .hunt, buffer := [], ones := 0 }) ∧
      exec (.badFrame []) s = .next s ∧
      ∀ content, content ≠ [] → isGoodContent content = false →
        exec (.badFrame content) s = .next (s.setLink { s.link with hunt := .hunt, buffer := [], ones := 0 })) ∧
    ∀ (e : TxEntry) (rest : List TxEntry) (slots : Nat), s.link.queue = e :: rest → e.sending = false →
      s.presence.state = .active ∨ s.presence.state = .isolated → s.link.loopback = false → s.link.lineIdle = true →
      s.link.idleTimer ≤ slots → slots % 16 = (s.presence.number - s.link.lastSender - 1).toNat →
      let started (window : Byte) (body : List Byte) := s.setLink
        { s.link with
          queue := { e with sending := true } :: rest
          txFrame := some { sender := s.presence.number, kind := e.kind, window := window, body := body }
          lineIdle := false
          idleTimer := 0 }
      let removed := s.setLink { s.link with queue := rest, idleTimer := slots + 1 }
      let byte (n : Nat) : Byte := BitVec.ofNat 8 n
      (e.kind = .status → s.presence.number ≠ 0 →
        exec (.transmitStart slots) s = .next (started s.gateStatus.1 s.gateStatus.2)) ∧
      (e.kind = .status → s.presence.number = 0 →
        exec (.transmitStart slots) s = .next (started s.vesselStatus.1 s.vesselStatus.2)) ∧
      (e.kind = .offer → exec (.transmitStart slots) s = .next
        (if s.vessel.state = .opened then started (byte s.vessel.number) (countBytes s.vessel.offer) else removed)) ∧
      (e.kind = .close → exec (.transmitStart slots) s = .next
        (if s.vessel.state = .opened then removed else started (byte s.vessel.number) [])) ∧
      (e.kind = .claim → exec (.transmitStart slots) s = .next
        (if s.account.claim ≠ .none ∧ s.view.state = .opened then
          started (byte s.view.number) (countBytes s.account.wanted)
        else removed)) ∧
      (e.kind = .grant → exec (.transmitStart slots) s = .next
        (if s.vessel.state ≠ .none ∧ ∃ g ∈ s.vessel.gates.toList, g.due = true then
          started (byte s.vessel.number) (grantBody s.vessel.remainder s.vessel.grantPairs)
        else removed)) ∧
      (e.kind = .ticket → ∀ c, e.ticket = some c → exec (.transmitStart slots) s = .next
        (started (byte c.window)
          [c.key.extractLsb' 24 8, c.key.extractLsb' 16 8, c.key.extractLsb' 8 8, c.key.extractLsb' 0 8, byte c.cls,
            byte c.party])) ∧
      (e.kind = .tally → exec (.transmitStart slots) s = .next (started (byte s.view.number) s.tallyBody)) ∧
      (e.kind = .egress ∨ e.kind = .egressEnd → exec (.transmitStart slots) s = .next (started 0 []))

/-- R15 to R17, R20, R99: a lost attempt. The entry waits again after its first and second loss; after the third it is removed, with FRAME
DROPPED where R17 raises it, with what its owner does, and with the request of its requeue mark taken anew; a kind in the deferred
slot is then taken as a new queuing. GRANT queued again in window state NONE too is log entry 28. -/
def Obligations.LostTransmissions : Prop :=
  ∀ (s : State) (e : TxEntry) (rest : List TxEntry) (f : Frame), s.link.queue = e :: rest → e.sending = true →
    s.link.txFrame = some f →
    let again := s.setLink
      { s.link with
        queue := { e with sending := false, attempts := e.attempts + 1, requeue := false } :: rest
        txFrame := none }
    let stop := s.admission.record.bind Presentation.stopCause
    let lost (t : State) : Prop := exec .lostArbitration s = .next (settleClear s t)
    exec .readbackFault s =
      exec .lostArbitration (s.setLink { s.link with hunt := .hunt, buffer := [], ones := 0 }) ∧
    (s.link.deferred = none → e.attempts < 2 → e.kind ≠ .ticket →
      exec .readbackFault s = .next (settleClear s (again.setLink
        { again.link with hunt := .hunt, buffer := [], ones := 0 }))) ∧
    (s.link.deferred = none → e.attempts < 2 →
      (e.kind ≠ .ticket ∨ stop = none → lost again) ∧
      (e.kind = .ticket → stop = some .windowClosed → lost (again.refuse .windowClosed 0)) ∧
      (e.kind = .ticket → stop = some .laneRestart → lost (again.refuse .laneRestart 0)) ∧
      (e.kind = .ticket → stop = some .laneUnavailable → lost (again.refuse .laneUnavailable 0))) ∧
    (s.link.deferred = none → 2 ≤ e.attempts →
      let dropped (u : State) : State := u.setLink { u.link with queue := rest, txFrame := none }
      let reported := dropped (s.raise .frameDropped e.kind.code.toNat f.window.toNat)
      (e.kind = .status ∨ e.kind = .offer ∨ e.kind = .close →
        lost (if e.requeue then reported.queueKind e.kind else reported)) ∧
      (e.kind = .egress → lost (if e.requeue then reported.queueEvacuation .egress else reported)) ∧
      (e.kind = .claim → lost (if e.requeue then (dropped s).queueKind .claim else dropped s)) ∧
      (e.requeue = false →
        (e.kind = .ticket → lost ((dropped s).refuse .link 0)) ∧
        (e.kind = .grant →
          lost (if ∃ g ∈ s.vessel.gates.toList, g.due = true then reported.queueKind .grant else reported)) ∧
        (e.kind = .tally → lost (reported.windowEnded false)) ∧
        (e.kind = .egressEnd → lost (reported.setEgress { s.egress with endMark := false }))) ∧
      (e.requeue = true →
        (e.kind = .grant → lost (reported.queueKind .grant)) ∧
        (e.kind = .tally → lost ((reported.windowEnded false).queueKind .tally)) ∧
        (e.kind = .egressEnd → lost ((reported.setEgress { s.egress with endMark := false }).queueEvacuation .egressEnd)))) ∧
    ∀ k, s.link.deferred = some k → e.kind = .egress ∨ e.kind = .egressEnd →
      (e.attempts < 2 → lost (again.setLink (Link.queueEvacuation { again.link with deferred := none } k))) ∧
      (2 ≤ e.attempts → e.requeue = false →
        let reported := s.raise .frameDropped e.kind.code.toNat f.window.toNat
        let dropped := reported.setLink
          (Link.queueEvacuation { s.link with queue := rest, txFrame := none, deferred := none } k)
        (e.kind = .egress → lost dropped) ∧
        (e.kind = .egressEnd → lost (dropped.setEgress { s.egress with endMark := false })) ∧
        ((∀ x ∈ rest, x.sending = false ∧ x.kind.isEvacuation = false) →
          dropped.link.queue = TxEntry.fresh k :: rest))

/-- R18 to R20, R67, R76, R93, R94, R109, R62, R180: a completed transmission leaves the queue, or goes to its tail when
it was queued again meanwhile, sets last sender, and its owner acts. Which STATUS sets the announced mark is log entry
26, the end mark beside a deferred EGRESS END log entry 27. That ADMITTED comes before the list's record (R109 and R118 leave
their order open) is log entry 5, GRANT queued again in window state NONE too log entry 28. -/
def Obligations.CompletedTransmissions : Prop :=
  ∀ (s : State) (e : TxEntry) (rest : List TxEntry) (f : Frame), s.link.queue = e :: rest → e.sending = true →
    s.link.txFrame = some f →
    let t := s.setLink
      { s.link with
        hunt := .hunt, buffer := [], ones := 0, txFrame := none, lastSender := s.presence.number
        queue := if e.requeue then rest ++ [{ e with sending := false, attempts := 0, requeue := false }] else rest }
    let done (u : State) : Prop := exec .ownFrameComplete s = .next (settleClear s u)
    let named := (grantPairs f.body).map Prod.fst
    (s.link.deferred = none →
      (e.kind = .offer ∨ e.kind = .close ∨ e.kind = .claim ∨ e.kind = .egress → done t) ∧
      (e.kind = .status →
        (s.presence.number ≠ 0 → statusViewFlag f.body = true → s.account.announced = false →
          done (t.setAccount { s.account with announced := true }).backgroundCheck) ∧
        (s.presence.number = 0 ∨ statusViewFlag f.body = false ∨ s.account.announced = true → done t)) ∧
      (e.kind = .grant →
        (s.vessel.number ≠ f.window.toNat → done t) ∧
        (s.vessel.number = f.window.toNat →
          let served := t.setVessel
            { s.vessel.clearDue named with lastServed := named.getLast?.getD s.vessel.lastServed }
          done (if ∃ g ∈ served.vessel.gates.toList, g.due = true then served.queueKind .grant else served))) ∧
      (e.kind = .ticket → ∀ p c, s.admission.record = some p → e.ticket = some c →
        done ((t.admitParty p.number p.party p.window).offerTicket c.key c.cls c.party s.presence.number c.window .own)) ∧
      (e.kind = .tally → s.account.claim = .none →
        let cleared := ((t.setView
              { s.view with
                tallyPending := false, lastTallied := s.view.number, state := .none, number := 0 }).setAccount
            { granted := 0, returned := 0, charged := 0, reserved := 0, wanted := 0, claim := .none,
              waitTimer := .stopped, repeatTimer := .stopped, full := false, announced := false, kept := none }).setLane
          { s.lane with paid := 0, unpaid := 0, excess := 0 }
        done ((if s.account.returned = 0 then cleared else cleared.statusTrigger).raise .windowEnded s.view.number 1)) ∧
      (e.kind = .egressEnd → done (t.setEgress { s.egress with endMark := false }))) ∧
    (∀ k, s.link.deferred = some k → e.requeue = false →
      let taken := t.setLink (Link.queueEvacuation { t.link with deferred := none } k)
      (e.kind = .egress → done taken) ∧
      (e.kind = .egressEnd → done (taken.setEgress { s.egress with endMark := false })) ∧
      ((∀ x ∈ rest, x.sending = false ∧ x.kind.isEvacuation = false) → taken.link.queue = TxEntry.fresh k :: rest)) ∧
    ∀ g : Station, g ≠ 0 →
      (s.vessel.clearDue named).row g =
        { s.vessel.row g with due := if g.toNat ∈ named then false else (s.vessel.row g).due }

/-! ## Frames heard -/

/-- R6, R12, R24, R29, R31, R32, R34: what every good frame from another station does, shown on frames of unknown kind, which do nothing
else; TEST frames and unassigned kind codes are of unknown kind. -/
def Obligations.GoodFramesAreHeard : Prop :=
  (∀ (g k : BitVec 4) (window : Byte) (body : List Byte), k = 0 ∨ 10 ≤ k.toNat →
    isUnknownKind g k window body = true) ∧
  ∀ (s : State) (g k : BitVec 4) (window : Byte) (body : List Byte), isUnknownKind g k window body = true →
    let taken := s.setLink { s.link with hunt := .hunt, buffer := [], ones := 0, lastSender := g }
    (s.link.loopback = true → exec (.unknownKindFrame g k window body) s = .next s) ∧
    (s.link.loopback = false → s.presence.state = .setup ∨ g = s.presence.number →
      exec (.unknownKindFrame g k window body) s = .next taken) ∧
    (s.hears g →
      let atStation :=
        match s.presence.state with
        | .setup => taken
        | .listen =>
          (taken.setPresence
            { s.presence with
              state := .active, listenTimer := .stopped, isolationTimer := .running 450,
              rollTimer := .running 100 }).queueKind .status
        | .active => taken.setPresence { s.presence with isolationTimer := .running 450 }
        | .isolated =>
          (taken.setPresence { s.presence with state := .active, isolationTimer := .running 450 }).raise .linkRestored
            g.toNat
      let known := atStation.setPresence
        (atStation.presence.setPeer g { s.presence.peer g with presence := .present, silence := .running 450 })
      let d := if (s.presence.peer g).presence = .present then known else known.raise .peerJoined g.toNat
      exec (.unknownKindFrame g k window body) s = .next d ∧ s.delivered g = d)

/-- R57, R58, R60, R61: the window view follows the vessel station's OFFER, CLOSE and STATUS, and what leaving OPEN does
at the gate. The order of the view's blocks and of their event records is log entry 5. -/
def Obligations.ViewFollowsTheVessel : Prop :=
  (∀ (s : State) (window : Byte) (body : List Byte), s.hears 0 →
    let d := s.delivered 0
    let r := d.recordStatus 0 window body
    let w := window.toNat
    let shown (u : State) (offer : Nat) : State :=
      match s.view.state with
      | .none =>
        if w = s.view.lastTallied then u
        else
          ((u.setView { s.view with state := .opened, number := w }).clearAccount.raise .windowOpened w
            offer).statusTrigger
      | .opened => if w = s.view.number then u else u.viewClose
      | .orphaned =>
        if w = s.view.number then
          (u.setView { s.view with state := .opened, orphanTimer := .stopped }).raise .windowResumed w
        else u.viewClose
      | .closed => u
    let inView := s.view.state = .opened ∨ s.view.state = .orphaned
    (formatCheck .offer 0 window body = true →
      exec (.offerFrame 0 window body) s = .next (settleClear s (shown d (wordAt body 0)))) ∧
    (formatCheck .close 0 window body = true →
      (inView → w = s.view.number → exec (.closeFrame 0 window body) s = .next (settleClear s d.viewClose)) ∧
      (¬inView ∨ w ≠ s.view.number → exec (.closeFrame 0 window body) s = .next (settleClear s d))) ∧
    (formatCheck .status 0 window body = true → statusEgressFlag body = false →
      (natAt body 0 = 1 →
        exec (.statusFrame 0 window body) s = .next (settleClear s (shown r (wordAt body 2)))) ∧
      (natAt body 0 ≠ 1 → inView → exec (.statusFrame 0 window body) s = .next (settleClear s r.viewClose)) ∧
      (natAt body 0 = 0 → s.view.state = .none →
        exec (.statusFrame 0 window body) s = .next (settleClear s (r.setView { s.view with lastTallied := 0 }))) ∧
      (natAt body 0 ≠ 1 → s.view.state = .closed →
        exec (.statusFrame 0 window body) s = .next (settleClear s r)) ∧
      (natAt body 0 = 2 → s.view.state = .none →
        exec (.statusFrame 0 window body) s = .next (settleClear s r)))) ∧
  ∀ u : State, u.presence.number ≠ 0 →
    let closed := (u.setView { u.view with state := .closed, orphanTimer := .stopped }).raise .windowClosed u.view.number
    let tallied (x : State) : State :=
      if u.view.tallyPending = false ∧ u.lane.remaining = 0 ∧ u.lane.tracker.state = .none then
        (x.queueKind .tally).setView { x.view with tallyPending := true }
      else x
    (u.view.state = .orphaned → u.viewClose = tallied closed) ∧
    (u.view.state = .opened → u.admission.record = none → u.viewClose = tallied closed.endClaim) ∧
    (u.view.state = .opened → ∀ p, u.admission.record = some p →
      p.state = .awaitPlaces ∨ (∀ e ∈ u.link.queue, e.kind = .ticket → e.sending = false) →
      u.viewClose = tallied (closed.refuse .windowClosed 0).endClaim)

/-- R74 to R76, R70, R71: a CLAIM at the vessel station, the stations that a GRANT serves in rotating order, and a GRANT at a gate.
WINDOW FULL is raised at the first claim of a window that leaves no remainder. -/
def Obligations.ClaimsAndGrants : Prop :=
  (∀ (s : State) (g : Station) (window : Byte) (body : List Byte), s.hears g → s.presence.number = 0 →
    formatCheck .claim g window body = true →
    let d := s.delivered g
    let row := s.vessel.row g
    (s.vessel.state ≠ .opened ∨ s.vessel.number ≠ window.toNat ∨ row.lost = true →
      exec (.claimFrame g window body) s = .next d) ∧
    (s.vessel.state = .opened → s.vessel.number = window.toNat → row.lost = false →
      let given := min (wordAt body 0 - row.granted) s.vessel.remainder
      let v :=
        { s.vessel.setRow g { row with granted := row.granted + given, due := true } with
          remainder := s.vessel.remainder - given }
      let granted := (d.setVessel v).queueKind .grant
      exec (.claimFrame g window body) s = .next
        (if s.vessel.remainder = given ∧ s.vessel.fullRaised = false then
          (granted.setVessel { v with fullRaised := true }).raise .windowFull s.vessel.number
        else granted))) ∧
  (∀ v : Vessel, v.lastServed ≤ 15 →
    let stations := (List.range 15).map (· + 1)
    let rotating := stations.filter (fun g => v.lastServed < g) ++ stations.filter (fun g => g ≤ v.lastServed)
    let named := (rotating.filter fun g => (v.row (BitVec.ofNat 4 g)).due).take 4
    v.grantPairs = named.map fun g => (g, (v.row (BitVec.ofNat 4 g)).granted)) ∧
  ∀ (s : State) (window : Byte) (body : List Byte), s.hears 0 → formatCheck .grant 0 window body = true →
    let d := s.delivered 0
    let remainder := wordAt body 0
    let reopened := s.account.full = true ∧ 0 < remainder
    (s.view.state = .none ∨ s.view.number ≠ window.toNat →
      exec (.grantFrame 0 window body) s = .next (settleClear s d)) ∧
    (s.view.state ≠ .none → s.view.number = window.toNat →
      ((∀ p ∈ grantPairs body, p.1 ≠ s.presence.number.toNat) →
        let t := d.setAccount { s.account with full := decide (remainder = 0) }
        exec (.grantFrame 0 window body) s = .next (settleClear s (if reopened then t.backgroundCheck else t))) ∧
      ∀ total, grantedTo s.presence.number body = [total] →
        let granted := max s.account.granted total
        let t := d.setAccount { s.account with granted := granted, full := decide (remainder = 0) }
        let u :=
          if s.account.claim = .none then t
          else if s.account.wanted ≤ granted then t.endClaimWith .satisfied
          else if remainder = 0 then t.endClaimWith .exhausted
          else t
        let v := if s.account.granted < total ∧ u.inReturnState = true then u.returnFree else u
        exec (.grantFrame 0 window body) s = .next (settleClear s
          (if s.account.granted < total ∨ reopened then v.backgroundCheck else v)))

/-- R50, R51, R55, R77, R78, R80: a gate's STATUS and TALLY at the vessel station, in the window, and a late TALLY after
it. Totals beyond a peer's usual range are taken as they stand (log entry 25); the order of records and queued frames is
log entry 5. -/
def Obligations.GateReportsAreTaken : Prop :=
  ∀ (s : State) (g : Station) (window : Byte) (body : List Byte), s.hears g → s.presence.number = 0 →
    let inWindow := s.vessel.state ≠ .none ∧ s.vessel.number = window.toNat
    let row := s.vessel.row g
    let taken (u : State) (r : GateStatus) (isFinal : Bool) : State :=
      let newlyLost := row.lost = false ∧ (r.returned < row.returned ∨ r.paid < row.paid ∨ r.unpaid < row.unpaid)
      let repaired := isFinal = false ∧ row.lost = false ∧ ¬newlyLost ∧ r.granted < row.granted
      let returned := max row.returned (min r.returned row.granted)
      let x := u.setVessel
        { s.vessel.setRow g
            { paid := max row.paid r.paid, unpaid := max row.unpaid r.unpaid, excess := max row.excess r.excess,
              final := row.final || isFinal, granted := row.granted, returned := returned,
              due := if newlyLost then false else if repaired then true else row.due,
              lost := row.lost || decide newlyLost } with
          remainder := s.vessel.remainder + (returned - row.returned) }
      let y := if newlyLost then x.raise .accountLost s.vessel.number g.toNat else x
      if repaired then y.queueKind .grant else y
    (formatCheck .status g window body = true → statusEgressFlag body = false →
      let r := (s.delivered g).recordStatus g window body
      (¬inWindow → exec (.statusFrame g window body) s = .next (settleClear s r)) ∧
      (inWindow → exec (.statusFrame g window body) s = .next (settleClear s
        (taken r ⟨wordAt body 2, wordAt body 4, wordAt body 6, wordAt body 8, wordAt body 10⟩ false)))) ∧
    (formatCheck .tally g window body = true →
      let d := s.delivered g
      let r : GateStatus := ⟨wordAt body 0, wordAt body 2, wordAt body 4, wordAt body 6, wordAt body 8⟩
      (inWindow →
        let t := taken d r true
        exec (.tallyFrame g window body) s = .next
          (if s.vessel.state = .closing ∧ ∀ h ∈ t.vessel.gates.toList, 0 < h.granted → h.final = true then
            t.completeWindow true
          else t)) ∧
      (¬inWindow → s.vessel.state ≠ .none ∨ s.vessel.record = none →
        exec (.tallyFrame g window body) s = .next d) ∧
      (s.vessel.state = .none → ∀ c, s.vessel.record = some c →
        (c.window ≠ window.toNat → exec (.tallyFrame g window body) s = .next d) ∧
        (c.window = window.toNat →
          let onboard := min (s.vessel.onboard + (r.paid + r.unpaid) - ((c.row g).paid + (c.row g).unpaid)) 65535
          let late := (d.setVessel
              { s.vessel with
                onboard := onboard
                record := some (c.setRow g
                  { paid := r.paid, unpaid := r.unpaid, excess := r.excess, final := true }) }).raise .lateTally
            c.window g.toNat (r.paid + r.unpaid)
          exec (.tallyFrame g window body) s = .next
            (if s.config.capacity < onboard then late.raise .overCapacity onboard s.config.capacity else late))))

/-- R97, R109 to R113: a TICKET heard refuses the same key's pending presentation and is offered to the list: a duplicate, no hold time, an
insertion, or an insertion with eviction; and a second's passing at the list. That the refusal comes before the list's record (R109
and R118 leave their order open) is log entry 5. -/
def Obligations.TicketsAreListed : Prop :=
  (∀ (s : State) (g : Station) (window : Byte) (body : List Byte), s.hears g →
    formatCheck .ticket g window body = true →
    let d := s.delivered g
    let key := byteAt body 0 ++ byteAt body 1 ++ byteAt body 2 ++ byteAt body 3
    let stopped :=
      match s.admission.record with
      | none => d
      | some p =>
        if p.key = key ∧ ¬(p.state = .awaitLink ∧ ∃ e ∈ d.link.queue, e.kind = .ticket ∧ e.sending = true) then
          d.refuse .claimedElsewhere g.toNat
        else d
    let heard (t : State) : Prop := exec (.ticketFrame g window body) s = .next (settleClear s t)
    let hold := (s.classRecord (natAt body 4)).holdTime
    let fresh : ListEntry :=
      { key := key, cls := natAt body 4, party := natAt body 5, station := g, window := window.toNat, hold := hold * 60,
        origin := .peer }
    (∀ (before after : List ListEntry) (e : ListEntry), s.list.entries = before ++ e :: after → e.key = key →
      (∀ x ∈ before, x.key ≠ key) →
      heard (stopped.raise .duplicateAdmission (key.toNat / 65536) (key.toNat % 65536)
        (e.station.toNat * 16 + g.toNat))) ∧
    ((∀ e ∈ s.list.entries, e.key ≠ key) →
      (hold = 0 → heard stopped) ∧
      (hold ≠ 0 → s.list.entries.length < 160 →
        heard (stopped.setList { s.list with entries := s.list.entries ++ [fresh] })) ∧
      (∀ (oldest : ListEntry) (rest : List ListEntry), hold ≠ 0 → s.list.entries = oldest :: rest →
        160 ≤ s.list.entries.length →
        heard ((stopped.setList { s.list with entries := rest ++ [fresh] }).raise .listEviction
          (oldest.key.toNat / 65536) (oldest.key.toNat % 65536) oldest.hold)))) ∧
  ∀ s : State, s.list.secondTimer.isRunning = true →
    ∃ entries, exec .listSecondTimerExpiry s = .next (s.setList { entries := entries, secondTimer := .running 1000 }) ∧
      entries = (s.list.entries.filter fun e => decide (1 < e.hold)).map fun e => { e with hold := e.hold - 1 }

/-! ## Timers -/

/-- R30, R31, R35, R36, R59: the presence unit's timers expire. -/
def Obligations.PresenceTimersExpire : Prop :=
  (∀ s : State, s.presence.listenTimer.isRunning = true → s.presence.state = .listen →
    exec .listenTimerExpiry s = .next
      ((((s.setLink { s.link with lastSender := 15 }).setPresence
        { s.presence with state := .isolated, listenTimer := .stopped, rollTimer := .running 100 }).raise
          .isolated).queueKind .status)) ∧
  (∀ s : State, s.presence.isolationTimer.isRunning = true → s.presence.state = .active →
    let isolated := (s.setPresence
      { s.presence with state := .isolated, isolationTimer := .stopped }).raise .isolated
    (s.vessel.state ≠ .opened → exec .isolationTimerExpiry s = .next isolated) ∧
    (s.vessel.state = .opened → exec .isolationTimerExpiry s = .next (isolated.closeWindow .isolation))) ∧
  (∀ s : State, s.presence.rollTimer.isRunning = true →
    exec .rollTimerExpiry s = .next
      ((s.setPresence { s.presence with rollTimer := .running 100 }).queueKind .status).backgroundCheck) ∧
  ∀ (s : State) (peer : Station), (s.presence.peer peer).silence.isRunning = true →
    let lost := (s.setPresence (s.presence.setPeer peer
      { presence := .absent, silence := .stopped, record := none, egress := false })).raise .peerLost peer.toNat
    (s.presence.number = 0 ∨ peer ≠ 0 ∨ s.view.state ≠ .opened →
      exec (.silenceTimerExpiry peer) s = .next (settleClear s lost)) ∧
    (s.presence.number ≠ 0 → s.view.state = .opened →
      let orphaned := (lost.setView
        { s.view with state := .orphaned, orphanTimer := .running 30000 }).raise .windowOrphaned s.view.number
      peer = 0 → exec (.silenceTimerExpiry peer) s = .next (settleClear s
        (orphaned.stopPresentation .windowClosed).endClaim))

/-- R60, R63, R67 to R72, R79, R91: the orphan limit; the background check; claims repeated and ended; a kept demand's
start (while another claim runs it raises that one, log entry 17). The refund before the view's end at the orphan limit
is log entry 5. -/
def Obligations.AccountTimersExpire : Prop :=
  let claiming (s : State) (kind : Claim) (wanted : Nat) : State :=
    (s.setAccount
      { s.account with
        claim := kind, wanted := wanted, waitTimer := .running 250, repeatTimer := .running 60 }).queueKind .claim
  let ended (s : State) : State :=
    (s.setAccount
      { s.account with claim := .none, waitTimer := .stopped, repeatTimer := .stopped }).withdraw .claim
  (∀ s : State, s.view.orphanTimer.isRunning = true → s.view.state = .orphaned →
    let t := s.refund .abandoned
    exec .orphanTimerExpiry s = .next (settleClear s
      ((t.setView { s.view with state := .none, number := 0, orphanTimer := .stopped }).raise .windowAbandoned
        s.view.number).clearAccount)) ∧
  (∀ s : State,
    let bare := (if s.account.claim = .none then s else ended s)
    let cleared := (bare.setAccount
        { granted := 0, returned := 0, charged := 0, reserved := 0, wanted := 0, claim := .none, waitTimer := .stopped,
          repeatTimer := .stopped, full := false, announced := false, kept := none }).setLane
      { s.lane with paid := 0, unpaid := 0, excess := 0 }
    s.clearAccount = if s.account.returned = 0 then cleared else cleared.statusTrigger) ∧
  (∀ s : State,
    let due := s.presence.number ≠ 0 ∧ s.view.state = .opened ∧
      (s.presence.state = .active ∨ s.presence.state = .isolated) ∧ s.account.announced = true ∧
      s.account.granted - s.account.returned - s.account.charged < s.config.lowMark ∧ s.account.claim = .none ∧
      s.account.full = false ∧ s.lane.state ≠ .held ∧ s.lane.state ≠ .fault ∧ s.lane.holdPending = false ∧
      s.egress.state = .normal
    (due → s.backgroundCheck = claiming s .background (s.account.granted + s.config.creditBlock)) ∧
    (¬due → s.backgroundCheck = s)) ∧
  (∀ (s : State) (party : Nat), s.account.kept = some party → s.account.announced = true →
    (∃ p, s.admission.record = some p ∧ p.state = .awaitPlaces) →
    let total := s.account.granted + max s.config.creditBlock (party - s.held)
    let started := s.setAccount { s.account with kept := none }
    (s.account.claim = .none → exec .keptDemandStart s = .next (claiming started .demand total)) ∧
    (s.account.claim ≠ .none → exec .keptDemandStart s = .next
      ((started.setAccount
        { s.account with
          kept := none, claim := .demand, wanted := max s.account.wanted total,
          waitTimer := .running 250 }).queueKind .claim))) ∧
  (∀ s : State, s.account.repeatTimer.isRunning = true → s.account.claim ≠ .none →
    exec .claimRepeatTimerExpiry s = .next
      ((s.setAccount { s.account with repeatTimer := .running 60 }).queueKind .claim)) ∧
  ∀ s : State, s.account.waitTimer.isRunning = true →
    (s.account.claim = .background → exec .claimWaitTimerExpiry s = .next (settleClear s (ended s))) ∧
    (s.account.claim = .demand → ∀ p, s.admission.record = some p → p.state = .awaitPlaces →
      (p.party ≤ s.held → (s.classRecord p.cls).holdTime = 0 →
        exec .claimWaitTimerExpiry s = .next (settleClear s ((ended s).admitParty p.number p.party p.window))) ∧
      (p.party ≤ s.held → (s.classRecord p.cls).holdTime ≠ 0 →
        exec .claimWaitTimerExpiry s = .next (settleClear s ((ended s).awaitLink p))) ∧
      (s.held < p.party →
        exec .claimWaitTimerExpiry s = .next (settleClear s ((ended s).refuse .noGrant s.held))))

/-- R123 to R127, R133, R83, R125: the lane's timers expire, and the tracker arms. The clear timer runs on its two conditions, R124's
and R140's, and never in SETUP (R120); that the recovery close too waits for the settle mark is log entry 29. -/
def Obligations.LaneTimersExpire : Prop :=
  (∀ s : State, s.lane.passageWait.isRunning = true → s.lane.remaining ≠ 0 → s.presence.number ≠ 0 →
    let n := s.lane.remaining
    let idle := (s.setLane { s.lane with remaining := 0, passageWait := .stopped }).setAccount
      { s.account with charged := s.account.charged - n }
    let told :=
      if s.lane.state = .held ∨ s.lane.state = .fault ∨ s.egress.state = .egress then idle.returnFree
      else idle.backgroundCheck
    let expired := told.raise .passageExpired n 0
    exec .passageWaitExpiry s = .next (settleClear s
      (if s.view.state = .closed ∧ s.view.tallyPending = false ∧ s.lane.tracker.state = .none then
        (expired.queueKind .tally).setView { s.view with tallyPending := true }
      else expired))) ∧
  (∀ s : State, s.lane.clearTimer.isRunning = true →
    (s.lane.state = .opened → exec .clearTimerExpiry s = .next (settleClear s
      (s.setLane { s.lane with clearTimer := .stopped, state := .closing }).closeCommand)) ∧
    (s.lane.state ≠ .opened → exec .clearTimerExpiry s = .next (settleClear s
      (s.setLane { s.lane with clearTimer := .stopped }).closeCommand))) ∧
  (∀ s : State, s.lane.tracker.armed = false → s.presence.state ≠ .setup → s.lane.settleMark = false →
    (s.presence.number ≠ 0 ∨ s.lane.mode = .alight) →
    (∀ p, (s.converter.plate p).cls = .empty ∧ (s.converter.plate p).fault = false) →
    let armed := s.setLane { s.lane with tracker := { s.lane.tracker with state := .none, armed := true } }
    exec .trackerArm s = .next (settleClear s
      (if s.lane.state = .idle ∨ s.lane.state = .held then armed.closeCommand else armed))) ∧
  (∀ s : State,
    (s.lane.loiterA.isRunning = true →
      exec (.loiterTimerExpiry .a) s = .next ((s.setLane { s.lane with loiterA := .stopped }).raise .loiter 1)) ∧
    (s.lane.loiterB.isRunning = true →
      exec (.loiterTimerExpiry .b) s = .next ((s.setLane { s.lane with loiterB := .stopped }).raise .loiter 2))) ∧
  ∀ before after : State,
    (after.clearCondition = true ↔
      after.presence.state ≠ .setup ∧ after.lane.settleMark = false ∧
        (∀ p, (after.converter.plate p).cls = .empty ∧ (after.converter.plate p).fault = false) ∧
        ((after.lane.state = .opened ∧
            (after.lane.remaining = 0 ∨ (after.presence.number = 0 ∧ after.lane.mode = .alight)) ∧
            after.barrier.state = .opened) ∨
          (after.lane.state = .fault ∧ after.lane.recovery = true ∧
            ¬(after.presence.number = 0 ∧ after.lane.mode = .flow) ∧ after.lane.remaining = 0))) ∧
    (after.clearCondition = true → before.clearCondition = true → settleClear before after = after) ∧
    (after.clearCondition = true → before.clearCondition = false →
      settleClear before after = after.setLane { after.lane with clearTimer := .running 300 }) ∧
    (after.clearCondition = false →
      settleClear before after = after.setLane { after.lane with clearTimer := .stopped })

/-! ## Plates, passages and the barrier -/

/-- R146 to R155: the four ends of a phase of the plate in turn: the offset's check, the reading and its class with the
debounce and the settle count, and bad conversions up to the plate fault. The tick count in WAITING and the place of the
stored offset are log entry 19; that the class change of a plate fault comes before PLATE FAULT and the lane's fault is log entry
5. -/
def Obligations.ConversionsEnd : Prop :=
  ∀ (s : State) (p : PlateId), s.converter.turn = some p →
    let plate := s.converter.plate p
    let other : PlateId := match p with | .a => .b | .b => .a
    let turned (q : Plate) : State := s.setConverter
      { (s.converter.setPlate p { q with phase := .waiting, ticks := 0 }).setPlate other
          { s.converter.plate other with phase := .zero, ticks := 0 } with turn := some other }
    let resumed (w : Timer) : Timer := match w with | .suspended left => .running left | other => other
    let bad (kind : ConversionResult) (code : Nat) (c : Instr) : Prop :=
      let worse := { plate with result := kind, bad := min (plate.bad + 1) 255 }
      (plate.bad ≠ 2 ∨ plate.fault = true → exec c s = .next (settleClear s (turned worse))) ∧
      (plate.bad = 2 → plate.fault = false →
        let faulted := turned { worse with fault := true, cls := .occupied, candidate := none, candidateRun := 0 }
        let unarmed := faulted.setLane
          { s.lane with
            tracker := { s.lane.tracker with state := .none, armed := false, multiple := false, exited := false }
            passageWait := resumed s.lane.passageWait }
        let finished :=
          if s.presence.number ≠ 0 ∧ s.view.state = .closed ∧ s.view.tallyPending = false ∧ s.lane.remaining = 0 then
            (unarmed.queueKind .tally).setView { s.view with tallyPending := true }
          else unarmed
        let quiet := finished.setLane
          { unarmed.lane with
            loiterA := if p = .a then .stopped else s.lane.loiterA
            loiterB := if p = .b then .stopped else s.lane.loiterB }
        let told := if plate.cls = .occupied then quiet else quiet.deliverClass p plate.cls
        let number := match p with | .a => 1 | .b => 2
        let t := settleClear s ((told.raise .plateFault number code).reportFault (match p with | .a => .plateA | .b => .plateB))
        exec c s = .next t ∧
          t.converter = faulted.converter ∧ t.lane.tracker.armed = false ∧ t.lane.tracker.state = .none ∧
          t.lane.loiter p = .stopped ∧ (s.lane.state ≠ .egress → t.lane.state = .fault) ∧
          (s.barrierSafe → t.barrier.output ≠ .driveClose) ∧
          (s.lane.state = .egress →
            t.lane.state = .egress ∧
              t.lane.faultCause = some (match s.lane.faultCause with
                | some first => first
                | none => match p with | .a => .plateA | .b => .plateB)) ∧
          (s.presence.number = 0 ∨ s.admission.record = none →
            t.events = (s.events.raise .plateFault (word16 number) (word16 code) 0).raise .laneFault (word16 number)
              (word16 told.lane.state.code) 0))
    (plate.phase = .zero → ∀ offset : Int,
      (-256 ≤ offset → offset ≤ 256 →
        exec (.zeroPhaseEnd offset) s = .next (s.setConverter
          (s.converter.setPlate p { plate with phase := .integrate, ticks := 0, offset := offset }))) ∧
      (offset < -256 ∨ 256 < offset → bad .zeroFault 2 (.zeroPhaseEnd offset))) ∧
    (plate.phase = .integrate →
      exec .integratePhaseEnd s = .next (s.setConverter
        (s.converter.setPlate p { plate with phase := .rundown, ticks := 0 }))) ∧
    (plate.phase = .rundown → bad .overrange 1 .rundownOverrange) ∧
    (plate.phase = .rundown → ∀ r, r < 2 * (4096 / 2 ^ s.config.resolution) →
      let reading := r * 2 ^ s.config.resolution / 2
      let c := s.config
      let k : PlateClass :=
        match plate.cls with
        | .empty => if c.multiple ≤ reading then .multiple else if c.occupy ≤ reading then .occupied else .empty
        | .occupied =>
          if c.multiple ≤ reading then .multiple else if c.occupy - c.hysteresis ≤ reading then .occupied else .empty
        | .multiple =>
          if c.multiple - c.hysteresis ≤ reading then .multiple
          else if c.occupy - c.hysteresis ≤ reading then .occupied
          else .empty
      let good := { plate with reading := reading, result := .good, bad := 0 }
      let settled (q : Plate) : Plate :=
        if plate.settle < 2 then { q with settle := if k = .empty then plate.settle + 1 else 0 } else q
      let noticed (t : State) : State :=
        if t.converter.plateA.settle = 2 ∧ t.converter.plateB.settle = 2 then
          t.setLane { t.lane with settleMark := false }
        else t
      let crossed (t : State) : Prop := exec (.rundownCrossing r) s = .next (settleClear s (noticed t))
      (plate.fault = true → crossed (turned good)) ∧
      (plate.fault = false → k = plate.cls →
        crossed (turned (settled { good with candidate := none, candidateRun := 0 }))) ∧
      (plate.fault = false → k ≠ plate.cls → plate.candidate ≠ some k →
        crossed (turned (settled { good with candidate := some k, candidateRun := 1 }))) ∧
      (plate.fault = false → k ≠ plate.cls → plate.candidate = some k →
        crossed ((turned (settled { good with cls := k, candidate := none, candidateRun := 0 })).deliverClass p
          plate.cls)))

/-- R127 to R130, R123, R133, R144, R151, R166: a class change of a plate reaches the lane and the barrier driver: the MULTIPLE mark of
a change that alters no occupancy; a plate that becomes occupied; and one that becomes empty. An armed tracker in NONE finds both
plates empty (R127), so the last takes no armed tracker in NONE. The lane before the barrier driver and the ALIGHT lane's opening
before the tracker's step are log entry 5, the wait resumed at every return to NONE log entry 11. That the turn back of a CLOSING or
PAUSED flap does not test an OPEN switch already active is log entry 12. -/
def Obligations.ClassChangesAct : Prop :=
  ∀ (s : State) (p : PlateId) (old : PlateClass),
    let plate := s.converter.plate p
    let tracker := s.lane.tracker
    let atEntry := (tracker.direction = .forward ∧ p = .a) ∨ (tracker.direction = .reverse ∧ p = .b)
    let flow := s.presence.number = 0 ∧ s.lane.mode = .flow
    let suspended (w : Timer) : Timer := match w with | .running left => .suspended left | other => other
    let resumed (w : Timer) : Timer := match w with | .suspended left => .running left | other => other
    (old ≠ .empty → plate.cls ≠ .empty →
      s.deliverClass p old =
        if tracker.armed = true ∧ tracker.state ≠ .none ∧ p = .b ∧ plate.cls = .multiple then
          s.setLane { s.lane with tracker := { tracker with multiple := true } }
        else s) ∧
    (old = .empty → plate.cls ≠ .empty →
      let opened :=
        if p = .b ∧ s.presence.number = 0 ∧ s.lane.mode = .alight ∧ s.lane.state = .idle then
          (s.setLane { s.lane with state := .opening }).openCommand false
        else s
      let timed :=
        if plate.fault = true ∨ flow then opened
        else opened.setLane
          { opened.lane with
            loiterA := if p = .a then .running 30000 else s.lane.loiterA
            loiterB := if p = .b then .running 30000 else s.lane.loiterB }
      let tracked :=
        if tracker.armed = false then timed
        else if tracker.state = .none then
          timed.setLane
            { timed.lane with
              tracker :=
                { state := .entering, direction := if p = .a then .forward else .reverse, armed := true,
                  multiple := p == .b && plate.cls == .multiple, exited := false }
              passageWait := suspended s.lane.passageWait }
        else
          timed.setLane
            { timed.lane with
              tracker :=
                { tracker with
                  multiple := tracker.multiple || (p == .b && plate.cls == .multiple)
                  state :=
                    if (tracker.state = .entering ∧ ¬atEntry) ∨ (tracker.state = .leaving ∧ atEntry) then .crossing
                    else tracker.state } }
      let origin := match tracked.barrier.movement with | some m => m.origin | none => .command
      let turned (output : BarrierOutput) (brake : Timer) : State := (tracked.setBarrier
        { tracked.barrier with
          output := output, state := .opening, movement := some ⟨.openEnd, origin, false⟩, retry := 0,
          unconfirmed := false, brakeTimer := brake, pauseTimer := .stopped, travelTimer := .running 1500
          reDrive := if origin = .command then none else tracked.barrier.reDrive }).reportReversed
      (tracked.barrier.state = .closing → s.deliverClass p old = turned .brake (.running 20)) ∧
      (tracked.barrier.state = .paused → ∀ m, tracked.barrier.movement = some m →
        s.deliverClass p old = if m.direction = .closedEnd then turned .driveOpen .stopped else tracked) ∧
      (tracked.barrier.state ≠ .closing → tracked.barrier.state ≠ .paused → s.deliverClass p old = tracked)) ∧
    (old ≠ .empty → plate.cls = .empty →
      let quiet := s.setLane
        { s.lane with
          loiterA := if p = .a then .stopped else s.lane.loiterA
          loiterB := if p = .b then .stopped else s.lane.loiterB }
      let stepped (next : TrackerState) (exited : Bool) : State :=
        quiet.setLane { quiet.lane with tracker := { tracker with state := next, exited := exited } }
      let home (u : State) : State :=
        let w := u.setLane { u.lane with passageWait := resumed u.lane.passageWait }
        if w.presence.number ≠ 0 ∧ w.view.state = .closed ∧ w.view.tallyPending = false ∧ w.lane.remaining = 0 then
          (w.queueKind .tally).setView { w.view with tallyPending := true }
        else w
      (tracker.armed = false → s.deliverClass p old = quiet) ∧
      (tracker.armed = true →
        (tracker.state = .entering →
          s.deliverClass p old = if atEntry then home (stepped .none tracker.exited) else quiet) ∧
        (tracker.state = .crossing → atEntry → s.deliverClass p old = stepped .leaving true) ∧
        (tracker.state = .crossing → ¬atEntry → tracker.exited = false →
          s.deliverClass p old = stepped .entering false) ∧
        (tracker.state = .crossing → ¬atEntry → tracker.exited = true →
          s.deliverClass p old =
            (quiet.setLane
              { quiet.lane with
                tracker := { tracker with state := .entering, multiple := false, exited := false } }).passageComplete
              tracker.direction tracker.multiple) ∧
        (tracker.state = .leaving →
          s.deliverClass p old =
            if atEntry then quiet
            else home ((stepped .none tracker.exited).passageComplete tracker.direction tracker.multiple))))

/-- R122, R135, R137, R138, R140, R103: what the barrier driver and the converter report to the lane: reached OPEN, reached CLOSED,
reversed, and a fault by lane state. The clear timer's start at a reversal in recovery is log entry 21. -/
def Obligations.LaneTakesReports : Prop :=
  ∀ s : State,
    let recovering := s.lane.state = .fault ∧ s.lane.recovery = true
    let flow := s.presence.number = 0 ∧ s.lane.mode = .flow
    let recovered (next : LaneState) : State :=
      (s.setLane { s.lane with state := next, recovery := false, faultCause := none }).raise .faultCleared
    let checked (u : State) : State :=
      if s.presence.number ≠ 0 ∧ s.admission.record = none ∧ s.lane.holdPending = true then
        let held := (u.setLane { u.lane with state := .held, holdPending := false }).enterReturn
        held.raise .holdEffective held.account.returned
      else u
    ((s.lane.state = .opening → s.reportOpen = s.setLane { s.lane with state := .opened }) ∧
      (recovering → flow → s.reportOpen = recovered .flow) ∧
      (s.lane.state ≠ .opening → ¬(recovering ∧ flow) → s.reportOpen = s)) ∧
    ((s.lane.state = .closing → s.reportClosed = checked (s.setLane { s.lane with state := .idle })) ∧
      (recovering → ¬flow → s.reportClosed = checked (recovered .idle)) ∧
      (s.lane.state ≠ .closing → ¬recovering ∨ flow → s.reportClosed = s)) ∧
    ((s.lane.state = .closing → s.reportReversed = s.setLane { s.lane with state := .opened }) ∧
      (recovering →
        s.reportReversed = s.setLane
          { s.lane with clearTimer := if s.clearCondition = true then .running 300 else .stopped }) ∧
      (s.lane.state ≠ .closing → ¬recovering → s.reportReversed = s)) ∧
    ∀ cause : FaultCause,
      let code := match cause with | .plateA => 1 | .plateB => 2 | .stall => 3 | .travel => 4 | .switch => 5
      let entered (hold : Bool) (before : Nat) : State :=
        let faulted := s.setLane
          { s.lane with state := .fault, faultCause := some cause, clearTimer := .stopped, holdPending := hold }
        (if s.presence.number = 0 then faulted
          else (faulted.stopPresentation .laneUnavailable).enterReturn).raise .laneFault code before
      (s.lane.state = .idle → s.reportFault cause = entered s.lane.holdPending 0) ∧
      (s.lane.state = .opening → s.reportFault cause = entered s.lane.holdPending 1) ∧
      (s.lane.state = .opened → s.reportFault cause = entered s.lane.holdPending 2) ∧
      (s.lane.state = .closing → s.reportFault cause = entered s.lane.holdPending 3) ∧
      (s.lane.state = .held → s.reportFault cause = entered true 4) ∧
      (s.lane.state = .flow → s.reportFault cause = entered s.lane.holdPending 7) ∧
      (s.lane.state = .fault →
        s.reportFault cause =
          (s.setLane { s.lane with recovery := false, clearTimer := .stopped }).raise .laneFault code 5) ∧
      (s.lane.state = .egress →
        s.reportFault cause = (s.setLane
          { s.lane with
            faultCause := some (match s.lane.faultCause with | none => cause | some first => first) }).raise .laneFault
              code 6)

/-- R128 to R132, R42, R82, R142, R144: the armed tracker's walk over the plates, and what a completed passage counts. -/
def Obligations.PassagesAreCounted : Prop :=
  (∀ (t : Tracker) (p : PlateId), t.state = .none →
    let first : PlateId := p
    let second : PlateId := match p with | .a => .b | .b => .a
    let direction : Direction := match p with | .a => .forward | .b => .reverse
    let entering :=
      { t with state := .entering, direction := direction, multiple := false, exited := false }
    let crossing := { entering with state := .crossing }
    let leaving := { crossing with state := .leaving, exited := true }
    t.step first true false = (entering, none) ∧ t.step first false false = (t, none) ∧
      entering.step first false false = ({ entering with state := .none }, none) ∧
      entering.step second true false = (crossing, none) ∧ entering.step second false false = (entering, none) ∧
      crossing.step second false false = (entering, none) ∧ crossing.step first false false = (leaving, none) ∧
      leaving.step first true false = ({ leaving with state := .crossing }, none) ∧
      leaving.step second false false = ({ leaving with state := .none }, some (direction, false)) ∧
      ({ leaving with state := .crossing } : Tracker).step second false false =
        ({ leaving with state := .entering, exited := false }, some (direction, false))) ∧
  (∀ (s : State) (direction : Direction) (multiple : Bool), s.lane.state = .egress →
    s.passageComplete direction multiple =
      s.setLane { s.lane with egressPassages := min (s.lane.egressPassages + 1) 65535 }) ∧
  (∀ (s : State) (direction : Direction) (multiple : Bool), s.lane.state ≠ .egress →
    (s.presence.number ≠ 0 ↔ direction = .reverse) →
    s.passageComplete direction multiple = s.raise .wrongWay s.lane.state.code) ∧
  (∀ (s : State) (multiple : Bool), s.lane.state ≠ .egress → s.presence.number = 0 →
    s.passageComplete .reverse multiple =
      ((if s.vessel.onboard = 0 then s.raise .countUnderflow
        else s.setVessel { s.vessel with onboard := s.vessel.onboard - 1 }).raise .alightCounted)) ∧
  ∀ s : State, s.lane.state ≠ .egress → s.presence.number ≠ 0 →
    let wait (left : Nat) : Timer :=
      if left = 0 then .stopped
      else if s.lane.tracker.state = .none then .running (s.config.passageWait * 1000)
      else .suspended (s.config.passageWait * 1000)
    (0 < s.lane.remaining →
      s.passageComplete .forward false =
        (s.setLane
          { s.lane with
            remaining := s.lane.remaining - 1, paid := s.lane.paid + 1,
            passageWait := wait (s.lane.remaining - 1) }).raise .passageCounted 1 (s.lane.remaining - 1)) ∧
    (1 < s.lane.remaining →
      s.passageComplete .forward true =
        (s.setLane
          { s.lane with
            remaining := s.lane.remaining - 2, paid := s.lane.paid + 2,
            passageWait := wait (s.lane.remaining - 2) }).raise .passageCounted 2 (s.lane.remaining - 2)) ∧
    let kind : EventKind :=
      if s.lane.state = .idle ∨ s.lane.state = .held ∨ (s.lane.state = .fault ∧ s.barrier.state = .closed) then
        .intrusion
      else .tailgate
    let two (paid : Nat) : State :=
      let unpaid := 2 - paid
      let counted := if s.view.state = .none then 0 else min unpaid (65535 - s.lane.unpaid)
      let charged := min counted s.freeCredits
      let excess := counted - charged
      let units := (s.setAccount { s.account with charged := s.account.charged + charged }).setLane
        { s.lane with
          remaining := 0, paid := s.lane.paid + paid, unpaid := s.lane.unpaid + counted,
          excess := s.lane.excess + excess, passageWait := .stopped }
      let told := (if paid = 0 then units else units.raise .passageCounted paid 0).raise kind unpaid excess s.view.number
      if charged = 0 then told else told.backgroundCheck
    (s.lane.remaining ≤ 1 → s.passageComplete .forward true = two s.lane.remaining) ∧
    (s.lane.remaining = 0 →
      (s.view.state = .none ∨ 65535 ≤ s.lane.unpaid →
        s.passageComplete .forward false =
          (s.setLane { s.lane with passageWait := .stopped }).raise kind 1 0 s.view.number) ∧
      (s.view.state ≠ .none → s.lane.unpaid < 65535 → s.freeCredits = 0 →
        s.passageComplete .forward false =
          (s.setLane
            { s.lane with
              unpaid := s.lane.unpaid + 1, excess := s.lane.excess + 1, passageWait := .stopped }).raise kind 1 1
            s.view.number) ∧
      (s.view.state ≠ .none → s.lane.unpaid < 65535 → 0 < s.freeCredits →
        s.passageComplete .forward false =
          (((s.setAccount { s.account with charged := s.account.charged + 1 }).setLane
            { s.lane with unpaid := s.lane.unpaid + 1, passageWait := .stopped }).raise kind 1 0
              s.view.number).backgroundCheck))

/-- R159, R163 to R174: the barrier driver's own commands: its end switches, a stall, its timers, a pending close and a
re-drive; R174's one attempt halts under RETRY. The cleared retry count and mark of a re-drive or of a movement toward closed are log
entry 13, the attempt's mark log entry 14. That the reversal at an obstruction and the turn back at a pause's end do not test an
OPEN switch already active is log entry 12. -/
def Obligations.BarrierCommandsAct : Prop :=
  ∀ s : State,
    let reached (b : Barrier) (e : EndId) : State :=
      let there := s.setBarrier
        { b with
          output := .off, brakeTimer := .stopped, travelTimer := .stopped, pauseTimer := .stopped,
          state := match e with | .openEnd => .opened | .closedEnd => .closed
          movement := none, retry := 0, unconfirmed := false
          obstructions := match e with | .openEnd => b.obstructions | .closedEnd => 0
          reDrive := if b.reDrive = some e then none else b.reDrive }
      match e with | .openEnd => there.reportOpen | .closedEnd => there.reportClosed
    let halted (b : Barrier) (cause : FaultCause) : State :=
      (s.setBarrier
        { b with
          output := .off, brakeTimer := .stopped, travelTimer := .stopped, pauseTimer := .stopped,
          reDriveTimer := .stopped, state := .halted, latch := true, movement := none, retry := 0, obstructions := 0,
          reDrive := none, pendingClose := false }).reportFault cause
    let paused (b : Barrier) : State := s.setBarrier
      { b with
        output := .off, brakeTimer := .stopped, travelTimer := .stopped, retry := b.retry + 1, state := .paused,
        pauseTimer := .running 500 }
    let acts (c : Instr) (t : State) : Prop := exec c s = .next (settleClear s t)
    (∀ e : EndId, s.barrier.switch e = false →
      let b := s.barrier.setSwitch e true
      (b.openSwitch = true → b.closedSwitch = true →
        (s.barrier.state ≠ .halted → acts (.endSwitchActive e) (halted b .switch)) ∧
        (s.barrier.state = .halted → acts (.endSwitchActive e) (s.setBarrier b))) ∧
      (b.openSwitch = false ∨ b.closedSwitch = false →
        ((e = .openEnd ∧ s.barrier.state = .opening) ∨ (e = .closedEnd ∧ s.barrier.state = .closing) →
          acts (.endSwitchActive e) (reached b e)) ∧
        ((e = .openEnd ∧ s.barrier.state ≠ .opening) ∨ (e = .closedEnd ∧ s.barrier.state ≠ .closing) →
          acts (.endSwitchActive e) (s.setBarrier
            { b with
              unconfirmed :=
                if (e = .openEnd ∧ s.barrier.state = .opened) ∨ (e = .closedEnd ∧ s.barrier.state = .closed) then false
                else s.barrier.unconfirmed
              reDrive :=
                if s.barrier.reDrive = some e ∧ s.barrier.movement = none then none else s.barrier.reDrive })))) ∧
    (∀ e : EndId, s.barrier.switch e = true →
      let b := s.barrier.setSwitch e false
      let atEnd := (e = .openEnd ∧ s.barrier.state = .opened) ∨ (e = .closedEnd ∧ s.barrier.state = .closed)
      (atEnd → s.barrier.unconfirmed = false →
        exec (.endSwitchInactive e) s = .next ((s.setBarrier { b with reDrive := some e }).raise .drift (endCode e))) ∧
      (¬atEnd ∨ s.barrier.unconfirmed = true → exec (.endSwitchInactive e) s = .next (s.setBarrier b))) ∧
    (s.barrier.output = .driveOpen → s.barrier.state = .opening →
      (s.config.faultMode = .latch → acts .stall (halted s.barrier .stall)) ∧
      (s.config.faultMode = .retry → ∀ m, s.barrier.movement = some m →
        acts .stall
          (if m.attempt = false ∧ s.barrier.retry < 3 then paused s.barrier else halted s.barrier .stall)) ∧
      (s.config.faultMode = .report → acts .stall (s.raise .barrierStall (endCode s.barrier.direction))) ∧
      (s.config.faultMode = .ignore → acts .stall s)) ∧
    (s.barrier.output = .driveClose → s.barrier.state = .closing → ∀ origin attempt,
      s.barrier.movement = some ⟨.closedEnd, origin, attempt⟩ →
      let count := min (s.barrier.obstructions + 1) 255
      let back := (s.setBarrier
        { s.barrier with
          obstructions := count, output := .brake, state := .opening, movement := some ⟨.openEnd, origin, false⟩,
          retry := 0, unconfirmed := false, brakeTimer := .running 20, pauseTimer := .stopped,
          travelTimer := .running 1500
          reDrive := match origin with | .command => none | .reDrive => s.barrier.reDrive }).reportReversed
      (count ≤ 2 → acts .stall back) ∧
      (count = 3 → acts .stall (back.raise .obstructed (match origin with | .command => 1 | .reDrive => 2))) ∧
      (3 < count →
        let counted := { s.barrier with obstructions := count }
        (s.config.faultMode = .latch → acts .stall (halted counted .stall)) ∧
        (s.config.faultMode = .retry →
          acts .stall
            (if attempt = false ∧ s.barrier.retry < 3 then paused counted else halted counted .stall)) ∧
        (s.config.faultMode = .report → acts .stall ((s.setBarrier counted).raise .barrierStall 2)) ∧
        (s.config.faultMode = .ignore → acts .stall (s.setBarrier counted)))) ∧
    (s.barrier.brakeTimer.isRunning = true → s.barrier.output = .brake →
      (s.barrier.state = .opening → exec .brakeTimerExpiry s = .next
        (s.setBarrier { s.barrier with brakeTimer := .stopped, output := .driveOpen })) ∧
      (s.barrier.state = .closing → exec .brakeTimerExpiry s = .next
        (s.setBarrier { s.barrier with brakeTimer := .stopped, output := .driveClose }))) ∧
    (s.barrier.travelTimer.isRunning = true → ∀ m, s.barrier.movement = some m →
      let b := { s.barrier with travelTimer := .stopped }
      (s.config.faultMode = .latch → acts .travelTimerExpiry (halted b .travel)) ∧
      (s.config.faultMode = .retry →
        acts .travelTimerExpiry
          (if m.attempt = false ∧ s.barrier.retry < 3 then paused b else halted b .travel)) ∧
      (s.config.faultMode = .report ∨ s.config.faultMode = .ignore →
        let t := reached b m.direction
        acts .travelTimerExpiry ((t.setBarrier { t.barrier with unconfirmed := true }).raise .positionUnconfirmed
          (endCode m.direction)))) ∧
    (s.barrier.pauseTimer.isRunning = true → s.barrier.state = .paused → ∀ m, s.barrier.movement = some m →
      let b := { s.barrier with pauseTimer := .stopped }
      (s.barrier.switch m.direction = true → acts .pauseTimerExpiry (reached b m.direction)) ∧
      (m.direction = .openEnd → s.barrier.openSwitch = false → acts .pauseTimerExpiry (s.setBarrier
        { b with output := .driveOpen, state := .opening, travelTimer := .running 1500 })) ∧
      (m.direction = .closedEnd → s.barrier.closedSwitch = false → s.plateCondition = true →
        acts .pauseTimerExpiry (s.setBarrier
          { b with output := .driveClose, state := .closing, travelTimer := .running 1500 })) ∧
      (m.direction = .closedEnd → s.barrier.closedSwitch = false → s.plateCondition = false →
        acts .pauseTimerExpiry (s.setBarrier
          { b with
            output := .driveOpen, state := .opening, movement := some ⟨.openEnd, m.origin, false⟩, retry := 0,
            unconfirmed := false, brakeTimer := .stopped, travelTimer := .running 1500
            reDrive := match m.origin with | .command => none | .reDrive => s.barrier.reDrive }).reportReversed)) ∧
    (s.barrier.pendingClose = true → s.barrier.state = .unknown → s.plateCondition = true →
      let b := { s.barrier with pendingClose := false, reDrive := none }
      acts .pendingCloseTaken
        (if s.barrier.closedSwitch then reached b .closedEnd
        else s.setBarrier
          { b with
            output := .driveClose, state := .closing, movement := some ⟨.closedEnd, .command, false⟩, retry := 0,
            unconfirmed := false, brakeTimer := .stopped, pauseTimer := .stopped, travelTimer := .running 1500 })) ∧
    ∀ e : EndId, s.barrier.reDrive = some e →
      s.barrier.state = .opened ∨ s.barrier.state = .closed ∨ s.barrier.state = .unknown →
      s.barrier.movement = none → s.barrier.reDriveTimer.isRunning = false → s.barrier.switch e = false →
      (e = .closedEnd → s.plateCondition = true) →
      acts .reDriveStart (s.setBarrier
        { s.barrier with
          output := match e with | .openEnd => .driveOpen | .closedEnd => .driveClose
          state := match e with | .openEnd => .opening | .closedEnd => .closing
          movement := some ⟨e, .reDrive, false⟩
          retry := 0, unconfirmed := false, brakeTimer := .stopped, pauseTimer := .stopped,
          travelTimer := .running 1500, reDriveTimer := .running 1000 })
end

