-- ==== Sys2Proof/Laws/State.lean ====
section
/-! SUPPORT. What each update of the state leaves in each field: one lemma per field per update, all by rfl. -/

namespace Sys2Proof.Machine

@[simp] theorem State.setPort_port (s : State) (x : HostPort) : (s.setPort x).port = x := rfl
@[simp] theorem State.setPort_config (s : State) (x : HostPort) : (s.setPort x).config = s.config := rfl
@[simp] theorem State.setPort_locked (s : State) (x : HostPort) : (s.setPort x).locked = s.locked := rfl
@[simp] theorem State.setPort_events (s : State) (x : HostPort) : (s.setPort x).events = s.events := rfl
@[simp] theorem State.setPort_link (s : State) (x : HostPort) : (s.setPort x).link = s.link := rfl
@[simp] theorem State.setPort_presence (s : State) (x : HostPort) : (s.setPort x).presence = s.presence := rfl
@[simp] theorem State.setPort_vessel (s : State) (x : HostPort) : (s.setPort x).vessel = s.vessel := rfl
@[simp] theorem State.setPort_view (s : State) (x : HostPort) : (s.setPort x).view = s.view := rfl
@[simp] theorem State.setPort_account (s : State) (x : HostPort) : (s.setPort x).account = s.account := rfl
@[simp] theorem State.setPort_admission (s : State) (x : HostPort) : (s.setPort x).admission = s.admission := rfl
@[simp] theorem State.setPort_list (s : State) (x : HostPort) : (s.setPort x).list = s.list := rfl
@[simp] theorem State.setPort_lane (s : State) (x : HostPort) : (s.setPort x).lane = s.lane := rfl
@[simp] theorem State.setPort_converter (s : State) (x : HostPort) : (s.setPort x).converter = s.converter := rfl
@[simp] theorem State.setPort_barrier (s : State) (x : HostPort) : (s.setPort x).barrier = s.barrier := rfl
@[simp] theorem State.setPort_egress (s : State) (x : HostPort) : (s.setPort x).egress = s.egress := rfl
@[simp] theorem State.setPort_pending (s : State) (x : HostPort) : (s.setPort x).pending = s.pending := rfl
@[simp] theorem State.setPort_setPort (s : State) (x y : HostPort) : (s.setPort x).setPort y = s.setPort y := rfl
@[simp] theorem State.setPort_self (s : State) : s.setPort s.port = s := rfl

@[simp] theorem State.setConfig_port (s : State) (x : ConfigRecord) : (s.setConfig x).port = s.port := rfl
@[simp] theorem State.setConfig_config (s : State) (x : ConfigRecord) : (s.setConfig x).config = x := rfl
@[simp] theorem State.setConfig_locked (s : State) (x : ConfigRecord) : (s.setConfig x).locked = s.locked := rfl
@[simp] theorem State.setConfig_events (s : State) (x : ConfigRecord) : (s.setConfig x).events = s.events := rfl
@[simp] theorem State.setConfig_link (s : State) (x : ConfigRecord) : (s.setConfig x).link = s.link := rfl
@[simp] theorem State.setConfig_presence (s : State) (x : ConfigRecord) : (s.setConfig x).presence = s.presence := rfl
@[simp] theorem State.setConfig_vessel (s : State) (x : ConfigRecord) : (s.setConfig x).vessel = s.vessel := rfl
@[simp] theorem State.setConfig_view (s : State) (x : ConfigRecord) : (s.setConfig x).view = s.view := rfl
@[simp] theorem State.setConfig_account (s : State) (x : ConfigRecord) : (s.setConfig x).account = s.account := rfl
@[simp] theorem State.setConfig_admission (s : State) (x : ConfigRecord) : (s.setConfig x).admission = s.admission := rfl
@[simp] theorem State.setConfig_list (s : State) (x : ConfigRecord) : (s.setConfig x).list = s.list := rfl
@[simp] theorem State.setConfig_lane (s : State) (x : ConfigRecord) : (s.setConfig x).lane = s.lane := rfl
@[simp] theorem State.setConfig_converter (s : State) (x : ConfigRecord) : (s.setConfig x).converter = s.converter := rfl
@[simp] theorem State.setConfig_barrier (s : State) (x : ConfigRecord) : (s.setConfig x).barrier = s.barrier := rfl
@[simp] theorem State.setConfig_egress (s : State) (x : ConfigRecord) : (s.setConfig x).egress = s.egress := rfl
@[simp] theorem State.setConfig_pending (s : State) (x : ConfigRecord) : (s.setConfig x).pending = s.pending := rfl
@[simp] theorem State.setConfig_setConfig (s : State) (x y : ConfigRecord) : (s.setConfig x).setConfig y = s.setConfig y := rfl
@[simp] theorem State.setConfig_self (s : State) : s.setConfig s.config = s := rfl

@[simp] theorem State.setLocked_port (s : State) (x : Bool) : (s.setLocked x).port = s.port := rfl
@[simp] theorem State.setLocked_config (s : State) (x : Bool) : (s.setLocked x).config = s.config := rfl
@[simp] theorem State.setLocked_locked (s : State) (x : Bool) : (s.setLocked x).locked = x := rfl
@[simp] theorem State.setLocked_events (s : State) (x : Bool) : (s.setLocked x).events = s.events := rfl
@[simp] theorem State.setLocked_link (s : State) (x : Bool) : (s.setLocked x).link = s.link := rfl
@[simp] theorem State.setLocked_presence (s : State) (x : Bool) : (s.setLocked x).presence = s.presence := rfl
@[simp] theorem State.setLocked_vessel (s : State) (x : Bool) : (s.setLocked x).vessel = s.vessel := rfl
@[simp] theorem State.setLocked_view (s : State) (x : Bool) : (s.setLocked x).view = s.view := rfl
@[simp] theorem State.setLocked_account (s : State) (x : Bool) : (s.setLocked x).account = s.account := rfl
@[simp] theorem State.setLocked_admission (s : State) (x : Bool) : (s.setLocked x).admission = s.admission := rfl
@[simp] theorem State.setLocked_list (s : State) (x : Bool) : (s.setLocked x).list = s.list := rfl
@[simp] theorem State.setLocked_lane (s : State) (x : Bool) : (s.setLocked x).lane = s.lane := rfl
@[simp] theorem State.setLocked_converter (s : State) (x : Bool) : (s.setLocked x).converter = s.converter := rfl
@[simp] theorem State.setLocked_barrier (s : State) (x : Bool) : (s.setLocked x).barrier = s.barrier := rfl
@[simp] theorem State.setLocked_egress (s : State) (x : Bool) : (s.setLocked x).egress = s.egress := rfl
@[simp] theorem State.setLocked_pending (s : State) (x : Bool) : (s.setLocked x).pending = s.pending := rfl
@[simp] theorem State.setLocked_setLocked (s : State) (x y : Bool) : (s.setLocked x).setLocked y = s.setLocked y := rfl
@[simp] theorem State.setLocked_self (s : State) : s.setLocked s.locked = s := rfl

@[simp] theorem State.setEvents_port (s : State) (x : EventQueue) : (s.setEvents x).port = s.port := rfl
@[simp] theorem State.setEvents_config (s : State) (x : EventQueue) : (s.setEvents x).config = s.config := rfl
@[simp] theorem State.setEvents_locked (s : State) (x : EventQueue) : (s.setEvents x).locked = s.locked := rfl
@[simp] theorem State.setEvents_events (s : State) (x : EventQueue) : (s.setEvents x).events = x := rfl
@[simp] theorem State.setEvents_link (s : State) (x : EventQueue) : (s.setEvents x).link = s.link := rfl
@[simp] theorem State.setEvents_presence (s : State) (x : EventQueue) : (s.setEvents x).presence = s.presence := rfl
@[simp] theorem State.setEvents_vessel (s : State) (x : EventQueue) : (s.setEvents x).vessel = s.vessel := rfl
@[simp] theorem State.setEvents_view (s : State) (x : EventQueue) : (s.setEvents x).view = s.view := rfl
@[simp] theorem State.setEvents_account (s : State) (x : EventQueue) : (s.setEvents x).account = s.account := rfl
@[simp] theorem State.setEvents_admission (s : State) (x : EventQueue) : (s.setEvents x).admission = s.admission := rfl
@[simp] theorem State.setEvents_list (s : State) (x : EventQueue) : (s.setEvents x).list = s.list := rfl
@[simp] theorem State.setEvents_lane (s : State) (x : EventQueue) : (s.setEvents x).lane = s.lane := rfl
@[simp] theorem State.setEvents_converter (s : State) (x : EventQueue) : (s.setEvents x).converter = s.converter := rfl
@[simp] theorem State.setEvents_barrier (s : State) (x : EventQueue) : (s.setEvents x).barrier = s.barrier := rfl
@[simp] theorem State.setEvents_egress (s : State) (x : EventQueue) : (s.setEvents x).egress = s.egress := rfl
@[simp] theorem State.setEvents_pending (s : State) (x : EventQueue) : (s.setEvents x).pending = s.pending := rfl
@[simp] theorem State.setEvents_setEvents (s : State) (x y : EventQueue) : (s.setEvents x).setEvents y = s.setEvents y := rfl
@[simp] theorem State.setEvents_self (s : State) : s.setEvents s.events = s := rfl

@[simp] theorem State.setLink_port (s : State) (x : Link) : (s.setLink x).port = s.port := rfl
@[simp] theorem State.setLink_config (s : State) (x : Link) : (s.setLink x).config = s.config := rfl
@[simp] theorem State.setLink_locked (s : State) (x : Link) : (s.setLink x).locked = s.locked := rfl
@[simp] theorem State.setLink_events (s : State) (x : Link) : (s.setLink x).events = s.events := rfl
@[simp] theorem State.setLink_link (s : State) (x : Link) : (s.setLink x).link = x := rfl
@[simp] theorem State.setLink_presence (s : State) (x : Link) : (s.setLink x).presence = s.presence := rfl
@[simp] theorem State.setLink_vessel (s : State) (x : Link) : (s.setLink x).vessel = s.vessel := rfl
@[simp] theorem State.setLink_view (s : State) (x : Link) : (s.setLink x).view = s.view := rfl
@[simp] theorem State.setLink_account (s : State) (x : Link) : (s.setLink x).account = s.account := rfl
@[simp] theorem State.setLink_admission (s : State) (x : Link) : (s.setLink x).admission = s.admission := rfl
@[simp] theorem State.setLink_list (s : State) (x : Link) : (s.setLink x).list = s.list := rfl
@[simp] theorem State.setLink_lane (s : State) (x : Link) : (s.setLink x).lane = s.lane := rfl
@[simp] theorem State.setLink_converter (s : State) (x : Link) : (s.setLink x).converter = s.converter := rfl
@[simp] theorem State.setLink_barrier (s : State) (x : Link) : (s.setLink x).barrier = s.barrier := rfl
@[simp] theorem State.setLink_egress (s : State) (x : Link) : (s.setLink x).egress = s.egress := rfl
@[simp] theorem State.setLink_pending (s : State) (x : Link) : (s.setLink x).pending = s.pending := rfl
@[simp] theorem State.setLink_setLink (s : State) (x y : Link) : (s.setLink x).setLink y = s.setLink y := rfl
@[simp] theorem State.setLink_self (s : State) : s.setLink s.link = s := rfl

@[simp] theorem State.setPresence_port (s : State) (x : Presence) : (s.setPresence x).port = s.port := rfl
@[simp] theorem State.setPresence_config (s : State) (x : Presence) : (s.setPresence x).config = s.config := rfl
@[simp] theorem State.setPresence_locked (s : State) (x : Presence) : (s.setPresence x).locked = s.locked := rfl
@[simp] theorem State.setPresence_events (s : State) (x : Presence) : (s.setPresence x).events = s.events := rfl
@[simp] theorem State.setPresence_link (s : State) (x : Presence) : (s.setPresence x).link = s.link := rfl
@[simp] theorem State.setPresence_presence (s : State) (x : Presence) : (s.setPresence x).presence = x := rfl
@[simp] theorem State.setPresence_vessel (s : State) (x : Presence) : (s.setPresence x).vessel = s.vessel := rfl
@[simp] theorem State.setPresence_view (s : State) (x : Presence) : (s.setPresence x).view = s.view := rfl
@[simp] theorem State.setPresence_account (s : State) (x : Presence) : (s.setPresence x).account = s.account := rfl
@[simp] theorem State.setPresence_admission (s : State) (x : Presence) : (s.setPresence x).admission = s.admission := rfl
@[simp] theorem State.setPresence_list (s : State) (x : Presence) : (s.setPresence x).list = s.list := rfl
@[simp] theorem State.setPresence_lane (s : State) (x : Presence) : (s.setPresence x).lane = s.lane := rfl
@[simp] theorem State.setPresence_converter (s : State) (x : Presence) : (s.setPresence x).converter = s.converter := rfl
@[simp] theorem State.setPresence_barrier (s : State) (x : Presence) : (s.setPresence x).barrier = s.barrier := rfl
@[simp] theorem State.setPresence_egress (s : State) (x : Presence) : (s.setPresence x).egress = s.egress := rfl
@[simp] theorem State.setPresence_pending (s : State) (x : Presence) : (s.setPresence x).pending = s.pending := rfl
@[simp] theorem State.setPresence_setPresence (s : State) (x y : Presence) : (s.setPresence x).setPresence y = s.setPresence y := rfl
@[simp] theorem State.setPresence_self (s : State) : s.setPresence s.presence = s := rfl

@[simp] theorem State.setVessel_port (s : State) (x : Vessel) : (s.setVessel x).port = s.port := rfl
@[simp] theorem State.setVessel_config (s : State) (x : Vessel) : (s.setVessel x).config = s.config := rfl
@[simp] theorem State.setVessel_locked (s : State) (x : Vessel) : (s.setVessel x).locked = s.locked := rfl
@[simp] theorem State.setVessel_events (s : State) (x : Vessel) : (s.setVessel x).events = s.events := rfl
@[simp] theorem State.setVessel_link (s : State) (x : Vessel) : (s.setVessel x).link = s.link := rfl
@[simp] theorem State.setVessel_presence (s : State) (x : Vessel) : (s.setVessel x).presence = s.presence := rfl
@[simp] theorem State.setVessel_vessel (s : State) (x : Vessel) : (s.setVessel x).vessel = x := rfl
@[simp] theorem State.setVessel_view (s : State) (x : Vessel) : (s.setVessel x).view = s.view := rfl
@[simp] theorem State.setVessel_account (s : State) (x : Vessel) : (s.setVessel x).account = s.account := rfl
@[simp] theorem State.setVessel_admission (s : State) (x : Vessel) : (s.setVessel x).admission = s.admission := rfl
@[simp] theorem State.setVessel_list (s : State) (x : Vessel) : (s.setVessel x).list = s.list := rfl
@[simp] theorem State.setVessel_lane (s : State) (x : Vessel) : (s.setVessel x).lane = s.lane := rfl
@[simp] theorem State.setVessel_converter (s : State) (x : Vessel) : (s.setVessel x).converter = s.converter := rfl
@[simp] theorem State.setVessel_barrier (s : State) (x : Vessel) : (s.setVessel x).barrier = s.barrier := rfl
@[simp] theorem State.setVessel_egress (s : State) (x : Vessel) : (s.setVessel x).egress = s.egress := rfl
@[simp] theorem State.setVessel_pending (s : State) (x : Vessel) : (s.setVessel x).pending = s.pending := rfl
@[simp] theorem State.setVessel_setVessel (s : State) (x y : Vessel) : (s.setVessel x).setVessel y = s.setVessel y := rfl
@[simp] theorem State.setVessel_self (s : State) : s.setVessel s.vessel = s := rfl

@[simp] theorem State.setView_port (s : State) (x : WindowView) : (s.setView x).port = s.port := rfl
@[simp] theorem State.setView_config (s : State) (x : WindowView) : (s.setView x).config = s.config := rfl
@[simp] theorem State.setView_locked (s : State) (x : WindowView) : (s.setView x).locked = s.locked := rfl
@[simp] theorem State.setView_events (s : State) (x : WindowView) : (s.setView x).events = s.events := rfl
@[simp] theorem State.setView_link (s : State) (x : WindowView) : (s.setView x).link = s.link := rfl
@[simp] theorem State.setView_presence (s : State) (x : WindowView) : (s.setView x).presence = s.presence := rfl
@[simp] theorem State.setView_vessel (s : State) (x : WindowView) : (s.setView x).vessel = s.vessel := rfl
@[simp] theorem State.setView_view (s : State) (x : WindowView) : (s.setView x).view = x := rfl
@[simp] theorem State.setView_account (s : State) (x : WindowView) : (s.setView x).account = s.account := rfl
@[simp] theorem State.setView_admission (s : State) (x : WindowView) : (s.setView x).admission = s.admission := rfl
@[simp] theorem State.setView_list (s : State) (x : WindowView) : (s.setView x).list = s.list := rfl
@[simp] theorem State.setView_lane (s : State) (x : WindowView) : (s.setView x).lane = s.lane := rfl
@[simp] theorem State.setView_converter (s : State) (x : WindowView) : (s.setView x).converter = s.converter := rfl
@[simp] theorem State.setView_barrier (s : State) (x : WindowView) : (s.setView x).barrier = s.barrier := rfl
@[simp] theorem State.setView_egress (s : State) (x : WindowView) : (s.setView x).egress = s.egress := rfl
@[simp] theorem State.setView_pending (s : State) (x : WindowView) : (s.setView x).pending = s.pending := rfl
@[simp] theorem State.setView_setView (s : State) (x y : WindowView) : (s.setView x).setView y = s.setView y := rfl
@[simp] theorem State.setView_self (s : State) : s.setView s.view = s := rfl

@[simp] theorem State.setAccount_port (s : State) (x : Account) : (s.setAccount x).port = s.port := rfl
@[simp] theorem State.setAccount_config (s : State) (x : Account) : (s.setAccount x).config = s.config := rfl
@[simp] theorem State.setAccount_locked (s : State) (x : Account) : (s.setAccount x).locked = s.locked := rfl
@[simp] theorem State.setAccount_events (s : State) (x : Account) : (s.setAccount x).events = s.events := rfl
@[simp] theorem State.setAccount_link (s : State) (x : Account) : (s.setAccount x).link = s.link := rfl
@[simp] theorem State.setAccount_presence (s : State) (x : Account) : (s.setAccount x).presence = s.presence := rfl
@[simp] theorem State.setAccount_vessel (s : State) (x : Account) : (s.setAccount x).vessel = s.vessel := rfl
@[simp] theorem State.setAccount_view (s : State) (x : Account) : (s.setAccount x).view = s.view := rfl
@[simp] theorem State.setAccount_account (s : State) (x : Account) : (s.setAccount x).account = x := rfl
@[simp] theorem State.setAccount_admission (s : State) (x : Account) : (s.setAccount x).admission = s.admission := rfl
@[simp] theorem State.setAccount_list (s : State) (x : Account) : (s.setAccount x).list = s.list := rfl
@[simp] theorem State.setAccount_lane (s : State) (x : Account) : (s.setAccount x).lane = s.lane := rfl
@[simp] theorem State.setAccount_converter (s : State) (x : Account) : (s.setAccount x).converter = s.converter := rfl
@[simp] theorem State.setAccount_barrier (s : State) (x : Account) : (s.setAccount x).barrier = s.barrier := rfl
@[simp] theorem State.setAccount_egress (s : State) (x : Account) : (s.setAccount x).egress = s.egress := rfl
@[simp] theorem State.setAccount_pending (s : State) (x : Account) : (s.setAccount x).pending = s.pending := rfl
@[simp] theorem State.setAccount_setAccount (s : State) (x y : Account) : (s.setAccount x).setAccount y = s.setAccount y := rfl
@[simp] theorem State.setAccount_self (s : State) : s.setAccount s.account = s := rfl

@[simp] theorem State.setAdmission_port (s : State) (x : Admission) : (s.setAdmission x).port = s.port := rfl
@[simp] theorem State.setAdmission_config (s : State) (x : Admission) : (s.setAdmission x).config = s.config := rfl
@[simp] theorem State.setAdmission_locked (s : State) (x : Admission) : (s.setAdmission x).locked = s.locked := rfl
@[simp] theorem State.setAdmission_events (s : State) (x : Admission) : (s.setAdmission x).events = s.events := rfl
@[simp] theorem State.setAdmission_link (s : State) (x : Admission) : (s.setAdmission x).link = s.link := rfl
@[simp] theorem State.setAdmission_presence (s : State) (x : Admission) : (s.setAdmission x).presence = s.presence := rfl
@[simp] theorem State.setAdmission_vessel (s : State) (x : Admission) : (s.setAdmission x).vessel = s.vessel := rfl
@[simp] theorem State.setAdmission_view (s : State) (x : Admission) : (s.setAdmission x).view = s.view := rfl
@[simp] theorem State.setAdmission_account (s : State) (x : Admission) : (s.setAdmission x).account = s.account := rfl
@[simp] theorem State.setAdmission_admission (s : State) (x : Admission) : (s.setAdmission x).admission = x := rfl
@[simp] theorem State.setAdmission_list (s : State) (x : Admission) : (s.setAdmission x).list = s.list := rfl
@[simp] theorem State.setAdmission_lane (s : State) (x : Admission) : (s.setAdmission x).lane = s.lane := rfl
@[simp] theorem State.setAdmission_converter (s : State) (x : Admission) : (s.setAdmission x).converter = s.converter := rfl
@[simp] theorem State.setAdmission_barrier (s : State) (x : Admission) : (s.setAdmission x).barrier = s.barrier := rfl
@[simp] theorem State.setAdmission_egress (s : State) (x : Admission) : (s.setAdmission x).egress = s.egress := rfl
@[simp] theorem State.setAdmission_pending (s : State) (x : Admission) : (s.setAdmission x).pending = s.pending := rfl
@[simp] theorem State.setAdmission_setAdmission (s : State) (x y : Admission) : (s.setAdmission x).setAdmission y = s.setAdmission y := rfl
@[simp] theorem State.setAdmission_self (s : State) : s.setAdmission s.admission = s := rfl

@[simp] theorem State.setList_port (s : State) (x : RecentList) : (s.setList x).port = s.port := rfl
@[simp] theorem State.setList_config (s : State) (x : RecentList) : (s.setList x).config = s.config := rfl
@[simp] theorem State.setList_locked (s : State) (x : RecentList) : (s.setList x).locked = s.locked := rfl
@[simp] theorem State.setList_events (s : State) (x : RecentList) : (s.setList x).events = s.events := rfl
@[simp] theorem State.setList_link (s : State) (x : RecentList) : (s.setList x).link = s.link := rfl
@[simp] theorem State.setList_presence (s : State) (x : RecentList) : (s.setList x).presence = s.presence := rfl
@[simp] theorem State.setList_vessel (s : State) (x : RecentList) : (s.setList x).vessel = s.vessel := rfl
@[simp] theorem State.setList_view (s : State) (x : RecentList) : (s.setList x).view = s.view := rfl
@[simp] theorem State.setList_account (s : State) (x : RecentList) : (s.setList x).account = s.account := rfl
@[simp] theorem State.setList_admission (s : State) (x : RecentList) : (s.setList x).admission = s.admission := rfl
@[simp] theorem State.setList_list (s : State) (x : RecentList) : (s.setList x).list = x := rfl
@[simp] theorem State.setList_lane (s : State) (x : RecentList) : (s.setList x).lane = s.lane := rfl
@[simp] theorem State.setList_converter (s : State) (x : RecentList) : (s.setList x).converter = s.converter := rfl
@[simp] theorem State.setList_barrier (s : State) (x : RecentList) : (s.setList x).barrier = s.barrier := rfl
@[simp] theorem State.setList_egress (s : State) (x : RecentList) : (s.setList x).egress = s.egress := rfl
@[simp] theorem State.setList_pending (s : State) (x : RecentList) : (s.setList x).pending = s.pending := rfl
@[simp] theorem State.setList_setList (s : State) (x y : RecentList) : (s.setList x).setList y = s.setList y := rfl
@[simp] theorem State.setList_self (s : State) : s.setList s.list = s := rfl

@[simp] theorem State.setLane_port (s : State) (x : Lane) : (s.setLane x).port = s.port := rfl
@[simp] theorem State.setLane_config (s : State) (x : Lane) : (s.setLane x).config = s.config := rfl
@[simp] theorem State.setLane_locked (s : State) (x : Lane) : (s.setLane x).locked = s.locked := rfl
@[simp] theorem State.setLane_events (s : State) (x : Lane) : (s.setLane x).events = s.events := rfl
@[simp] theorem State.setLane_link (s : State) (x : Lane) : (s.setLane x).link = s.link := rfl
@[simp] theorem State.setLane_presence (s : State) (x : Lane) : (s.setLane x).presence = s.presence := rfl
@[simp] theorem State.setLane_vessel (s : State) (x : Lane) : (s.setLane x).vessel = s.vessel := rfl
@[simp] theorem State.setLane_view (s : State) (x : Lane) : (s.setLane x).view = s.view := rfl
@[simp] theorem State.setLane_account (s : State) (x : Lane) : (s.setLane x).account = s.account := rfl
@[simp] theorem State.setLane_admission (s : State) (x : Lane) : (s.setLane x).admission = s.admission := rfl
@[simp] theorem State.setLane_list (s : State) (x : Lane) : (s.setLane x).list = s.list := rfl
@[simp] theorem State.setLane_lane (s : State) (x : Lane) : (s.setLane x).lane = x := rfl
@[simp] theorem State.setLane_converter (s : State) (x : Lane) : (s.setLane x).converter = s.converter := rfl
@[simp] theorem State.setLane_barrier (s : State) (x : Lane) : (s.setLane x).barrier = s.barrier := rfl
@[simp] theorem State.setLane_egress (s : State) (x : Lane) : (s.setLane x).egress = s.egress := rfl
@[simp] theorem State.setLane_pending (s : State) (x : Lane) : (s.setLane x).pending = s.pending := rfl
@[simp] theorem State.setLane_setLane (s : State) (x y : Lane) : (s.setLane x).setLane y = s.setLane y := rfl
@[simp] theorem State.setLane_self (s : State) : s.setLane s.lane = s := rfl

@[simp] theorem State.setConverter_port (s : State) (x : Converter) : (s.setConverter x).port = s.port := rfl
@[simp] theorem State.setConverter_config (s : State) (x : Converter) : (s.setConverter x).config = s.config := rfl
@[simp] theorem State.setConverter_locked (s : State) (x : Converter) : (s.setConverter x).locked = s.locked := rfl
@[simp] theorem State.setConverter_events (s : State) (x : Converter) : (s.setConverter x).events = s.events := rfl
@[simp] theorem State.setConverter_link (s : State) (x : Converter) : (s.setConverter x).link = s.link := rfl
@[simp] theorem State.setConverter_presence (s : State) (x : Converter) : (s.setConverter x).presence = s.presence := rfl
@[simp] theorem State.setConverter_vessel (s : State) (x : Converter) : (s.setConverter x).vessel = s.vessel := rfl
@[simp] theorem State.setConverter_view (s : State) (x : Converter) : (s.setConverter x).view = s.view := rfl
@[simp] theorem State.setConverter_account (s : State) (x : Converter) : (s.setConverter x).account = s.account := rfl
@[simp] theorem State.setConverter_admission (s : State) (x : Converter) : (s.setConverter x).admission = s.admission := rfl
@[simp] theorem State.setConverter_list (s : State) (x : Converter) : (s.setConverter x).list = s.list := rfl
@[simp] theorem State.setConverter_lane (s : State) (x : Converter) : (s.setConverter x).lane = s.lane := rfl
@[simp] theorem State.setConverter_converter (s : State) (x : Converter) : (s.setConverter x).converter = x := rfl
@[simp] theorem State.setConverter_barrier (s : State) (x : Converter) : (s.setConverter x).barrier = s.barrier := rfl
@[simp] theorem State.setConverter_egress (s : State) (x : Converter) : (s.setConverter x).egress = s.egress := rfl
@[simp] theorem State.setConverter_pending (s : State) (x : Converter) : (s.setConverter x).pending = s.pending := rfl
@[simp] theorem State.setConverter_setConverter (s : State) (x y : Converter) : (s.setConverter x).setConverter y = s.setConverter y := rfl
@[simp] theorem State.setConverter_self (s : State) : s.setConverter s.converter = s := rfl

@[simp] theorem State.setBarrier_port (s : State) (x : Barrier) : (s.setBarrier x).port = s.port := rfl
@[simp] theorem State.setBarrier_config (s : State) (x : Barrier) : (s.setBarrier x).config = s.config := rfl
@[simp] theorem State.setBarrier_locked (s : State) (x : Barrier) : (s.setBarrier x).locked = s.locked := rfl
@[simp] theorem State.setBarrier_events (s : State) (x : Barrier) : (s.setBarrier x).events = s.events := rfl
@[simp] theorem State.setBarrier_link (s : State) (x : Barrier) : (s.setBarrier x).link = s.link := rfl
@[simp] theorem State.setBarrier_presence (s : State) (x : Barrier) : (s.setBarrier x).presence = s.presence := rfl
@[simp] theorem State.setBarrier_vessel (s : State) (x : Barrier) : (s.setBarrier x).vessel = s.vessel := rfl
@[simp] theorem State.setBarrier_view (s : State) (x : Barrier) : (s.setBarrier x).view = s.view := rfl
@[simp] theorem State.setBarrier_account (s : State) (x : Barrier) : (s.setBarrier x).account = s.account := rfl
@[simp] theorem State.setBarrier_admission (s : State) (x : Barrier) : (s.setBarrier x).admission = s.admission := rfl
@[simp] theorem State.setBarrier_list (s : State) (x : Barrier) : (s.setBarrier x).list = s.list := rfl
@[simp] theorem State.setBarrier_lane (s : State) (x : Barrier) : (s.setBarrier x).lane = s.lane := rfl
@[simp] theorem State.setBarrier_converter (s : State) (x : Barrier) : (s.setBarrier x).converter = s.converter := rfl
@[simp] theorem State.setBarrier_barrier (s : State) (x : Barrier) : (s.setBarrier x).barrier = x := rfl
@[simp] theorem State.setBarrier_egress (s : State) (x : Barrier) : (s.setBarrier x).egress = s.egress := rfl
@[simp] theorem State.setBarrier_pending (s : State) (x : Barrier) : (s.setBarrier x).pending = s.pending := rfl
@[simp] theorem State.setBarrier_setBarrier (s : State) (x y : Barrier) : (s.setBarrier x).setBarrier y = s.setBarrier y := rfl
@[simp] theorem State.setBarrier_self (s : State) : s.setBarrier s.barrier = s := rfl

@[simp] theorem State.setEgress_port (s : State) (x : Egress) : (s.setEgress x).port = s.port := rfl
@[simp] theorem State.setEgress_config (s : State) (x : Egress) : (s.setEgress x).config = s.config := rfl
@[simp] theorem State.setEgress_locked (s : State) (x : Egress) : (s.setEgress x).locked = s.locked := rfl
@[simp] theorem State.setEgress_events (s : State) (x : Egress) : (s.setEgress x).events = s.events := rfl
@[simp] theorem State.setEgress_link (s : State) (x : Egress) : (s.setEgress x).link = s.link := rfl
@[simp] theorem State.setEgress_presence (s : State) (x : Egress) : (s.setEgress x).presence = s.presence := rfl
@[simp] theorem State.setEgress_vessel (s : State) (x : Egress) : (s.setEgress x).vessel = s.vessel := rfl
@[simp] theorem State.setEgress_view (s : State) (x : Egress) : (s.setEgress x).view = s.view := rfl
@[simp] theorem State.setEgress_account (s : State) (x : Egress) : (s.setEgress x).account = s.account := rfl
@[simp] theorem State.setEgress_admission (s : State) (x : Egress) : (s.setEgress x).admission = s.admission := rfl
@[simp] theorem State.setEgress_list (s : State) (x : Egress) : (s.setEgress x).list = s.list := rfl
@[simp] theorem State.setEgress_lane (s : State) (x : Egress) : (s.setEgress x).lane = s.lane := rfl
@[simp] theorem State.setEgress_converter (s : State) (x : Egress) : (s.setEgress x).converter = s.converter := rfl
@[simp] theorem State.setEgress_barrier (s : State) (x : Egress) : (s.setEgress x).barrier = s.barrier := rfl
@[simp] theorem State.setEgress_egress (s : State) (x : Egress) : (s.setEgress x).egress = x := rfl
@[simp] theorem State.setEgress_pending (s : State) (x : Egress) : (s.setEgress x).pending = s.pending := rfl
@[simp] theorem State.setEgress_setEgress (s : State) (x y : Egress) : (s.setEgress x).setEgress y = s.setEgress y := rfl
@[simp] theorem State.setEgress_self (s : State) : s.setEgress s.egress = s := rfl

@[simp] theorem State.setPending_port (s : State) (x : List Instr) : (s.setPending x).port = s.port := rfl
@[simp] theorem State.setPending_config (s : State) (x : List Instr) : (s.setPending x).config = s.config := rfl
@[simp] theorem State.setPending_locked (s : State) (x : List Instr) : (s.setPending x).locked = s.locked := rfl
@[simp] theorem State.setPending_events (s : State) (x : List Instr) : (s.setPending x).events = s.events := rfl
@[simp] theorem State.setPending_link (s : State) (x : List Instr) : (s.setPending x).link = s.link := rfl
@[simp] theorem State.setPending_presence (s : State) (x : List Instr) : (s.setPending x).presence = s.presence := rfl
@[simp] theorem State.setPending_vessel (s : State) (x : List Instr) : (s.setPending x).vessel = s.vessel := rfl
@[simp] theorem State.setPending_view (s : State) (x : List Instr) : (s.setPending x).view = s.view := rfl
@[simp] theorem State.setPending_account (s : State) (x : List Instr) : (s.setPending x).account = s.account := rfl
@[simp] theorem State.setPending_admission (s : State) (x : List Instr) : (s.setPending x).admission = s.admission := rfl
@[simp] theorem State.setPending_list (s : State) (x : List Instr) : (s.setPending x).list = s.list := rfl
@[simp] theorem State.setPending_lane (s : State) (x : List Instr) : (s.setPending x).lane = s.lane := rfl
@[simp] theorem State.setPending_converter (s : State) (x : List Instr) : (s.setPending x).converter = s.converter := rfl
@[simp] theorem State.setPending_barrier (s : State) (x : List Instr) : (s.setPending x).barrier = s.barrier := rfl
@[simp] theorem State.setPending_egress (s : State) (x : List Instr) : (s.setPending x).egress = s.egress := rfl
@[simp] theorem State.setPending_pending (s : State) (x : List Instr) : (s.setPending x).pending = x := rfl
@[simp] theorem State.setPending_setPending (s : State) (x y : List Instr) : (s.setPending x).setPending y = s.setPending y := rfl
@[simp] theorem State.setPending_self (s : State) : s.setPending s.pending = s := rfl

end Sys2Proof.Machine
end

