-- ==== Sys2Proof/Laws/Ops.lean ====
section
/-! SUPPORT. What the shared operations leave alone: one lemma per operation, read by simp as one rule per field. -/

namespace Sys2Proof.Machine

/-! ## The relations -/

/-- `t` differs from `s` in events alone. -/
@[simp] abbrev OnlyEvents (s t : State) : Prop :=
  t.port = s.port ∧ t.config = s.config ∧ t.locked = s.locked ∧ t.link = s.link ∧ t.presence = s.presence ∧
    t.vessel = s.vessel ∧ t.view = s.view ∧ t.account = s.account ∧ t.admission = s.admission ∧ t.list = s.list ∧
    t.lane = s.lane ∧ t.converter = s.converter ∧ t.barrier = s.barrier ∧ t.egress = s.egress ∧ t.pending = s.pending

/-- `t` differs from `s` in the link controller alone. -/
@[simp] abbrev OnlyLink (s t : State) : Prop :=
  t.port = s.port ∧ t.config = s.config ∧ t.locked = s.locked ∧ t.events = s.events ∧ t.presence = s.presence ∧
    t.vessel = s.vessel ∧ t.view = s.view ∧ t.account = s.account ∧ t.admission = s.admission ∧ t.list = s.list ∧
    t.lane = s.lane ∧ t.converter = s.converter ∧ t.barrier = s.barrier ∧ t.egress = s.egress ∧ t.pending = s.pending

/-- `t` differs from `s` in the gate place account and the link controller alone. -/
@[simp] abbrev OnlyAccount (s t : State) : Prop :=
  t.port = s.port ∧ t.config = s.config ∧ t.locked = s.locked ∧ t.events = s.events ∧ t.presence = s.presence ∧
    t.vessel = s.vessel ∧ t.view = s.view ∧ t.admission = s.admission ∧ t.list = s.list ∧
    t.lane = s.lane ∧ t.converter = s.converter ∧ t.barrier = s.barrier ∧ t.egress = s.egress ∧ t.pending = s.pending

/-- `t` differs from `s` in the gate's bookkeeping alone: account, link, events, lane, admission and view. -/
@[simp] abbrev OnlyDesk (s t : State) : Prop :=
  t.port = s.port ∧ t.config = s.config ∧ t.locked = s.locked ∧ t.presence = s.presence ∧ t.vessel = s.vessel ∧
    t.list = s.list ∧ t.converter = s.converter ∧ t.barrier = s.barrier ∧ t.egress = s.egress ∧ t.pending = s.pending

/-- `t` differs from `s` in the gate's bookkeeping and the barrier driver alone. -/
@[simp] abbrev OnlyGateway (s t : State) : Prop :=
  t.port = s.port ∧ t.config = s.config ∧ t.locked = s.locked ∧ t.presence = s.presence ∧ t.vessel = s.vessel ∧
    t.list = s.list ∧ t.converter = s.converter ∧ t.egress = s.egress ∧ t.pending = s.pending

/-! ## Events and the transmit queue -/

@[simp] theorem State.raise_frame (s : State) (k : EventKind) (a b c : Nat) : OnlyEvents s (s.raise k a b c) := by
  simp [State.raise]

@[simp] theorem State.queueKind_frame (s : State) (k : FrameKind) : OnlyLink s (s.queueKind k) := by
  simp [State.queueKind]

@[simp] theorem State.queueEvacuation_frame (s : State) (k : FrameKind) : OnlyLink s (s.queueEvacuation k) := by
  simp [State.queueEvacuation]

@[simp] theorem State.withdraw_frame (s : State) (k : FrameKind) : OnlyLink s (s.withdraw k) := by
  simp [State.withdraw]

@[simp] theorem State.statusTrigger_frame (s : State) : OnlyLink s s.statusTrigger := by
  unfold State.statusTrigger; split <;> simp

/-! ## The gate place account -/

@[simp] theorem State.startClaim_frame (s : State) (k : Claim) (w : Nat) : OnlyAccount s (s.startClaim k w) := by
  simp [State.startClaim]

@[simp] theorem State.backgroundCheck_frame (s : State) : OnlyAccount s s.backgroundCheck := by
  unfold State.backgroundCheck; split <;> simp

@[simp] theorem State.dropClaim_frame (s : State) : OnlyAccount s s.dropClaim := by
  simp [State.dropClaim]

@[simp] theorem State.endClaim_frame (s : State) : OnlyAccount s s.endClaim := by
  unfold State.endClaim; split <;> simp

@[simp] theorem State.demand_frame (s : State) (n : Nat) : OnlyAccount s (s.demand n) := by
  unfold State.demand; split <;> [split; skip] <;> simp

@[simp] theorem State.returnFree_frame (s : State) : OnlyAccount s s.returnFree := by
  unfold State.returnFree; split <;> simp

@[simp] theorem State.enterReturn_frame (s : State) : OnlyAccount s s.enterReturn := by
  simp [State.enterReturn]

@[simp] theorem State.refundAccount_frame (s : State) (n : Nat) : OnlyAccount s (s.refundAccount n) := by
  unfold State.refundAccount; dsimp only; split <;> simp

@[simp] theorem State.lapse_frame (s : State) : OnlyAccount s s.lapse := by
  unfold State.lapse; dsimp only; split <;> simp

@[simp] theorem State.clearAccount_frame (s : State) : OnlyDesk s s.clearAccount := by
  unfold State.clearAccount; dsimp only; split <;> simp

/-! ## Hold, refusal and the events that stop a presentation -/

@[simp] theorem State.holdEffective_frame (s : State) : OnlyDesk s s.holdEffective := by
  simp [State.holdEffective]

@[simp] theorem State.holdCheck_frame (s : State) : OnlyDesk s s.holdCheck := by
  unfold State.holdCheck; split <;> simp

@[simp] theorem State.refuse_frame (s : State) (r : Reason) (d : Nat) : OnlyDesk s (s.refuse r d) := by
  unfold State.refuse; split
  · simp
  · dsimp only; split <;> simp

@[simp] theorem State.stopPresentation_frame (s : State) (c : StopCause) : OnlyDesk s (s.stopPresentation c) := by
  unfold State.stopPresentation; split
  · simp
  · split <;> simp

@[simp] theorem State.abortPresentation_frame (s : State) : OnlyDesk s s.abortPresentation := by
  unfold State.abortPresentation; dsimp only; split <;> simp

/-! ## Reports to the lane -/

@[simp] theorem State.recoveryComplete_frame (s : State) (l : LaneState) : OnlyDesk s (s.recoveryComplete l) := by
  simp [State.recoveryComplete]

@[simp] theorem State.reportOpen_frame (s : State) : OnlyDesk s s.reportOpen := by
  unfold State.reportOpen; split <;> [skip; split] <;> simp

@[simp] theorem State.reportClosed_frame (s : State) : OnlyDesk s s.reportClosed := by
  unfold State.reportClosed; split <;> [skip; split] <;> simp

@[simp] theorem State.reportReversed_frame (s : State) : OnlyDesk s s.reportReversed := by
  unfold State.reportReversed; split <;> [skip; split] <;> simp

@[simp] theorem State.enterFault_frame (s : State) (c : FaultCause) : OnlyDesk s (s.enterFault c) := by
  unfold State.enterFault; dsimp only; split <;> simp

@[simp] theorem State.reportFault_frame (s : State) (c : FaultCause) : OnlyDesk s (s.reportFault c) := by
  unfold State.reportFault; split <;> simp

/-! ## The barrier driver -/

@[simp] theorem State.reportEnd_frame (s : State) (e : EndId) : OnlyDesk s (s.reportEnd e) := by
  cases e <;> simp [State.reportEnd]

@[simp] theorem State.reachEnd_frame (s : State) (e : EndId) : OnlyGateway s (s.reachEnd e) := by
  simp [State.reachEnd]

@[simp] theorem State.beginOpen_frame (s : State) : OnlyGateway s s.beginOpen := by
  unfold State.beginOpen; split <;> simp

@[simp] theorem State.beginClose_frame (s : State) : OnlyGateway s s.beginClose := by
  unfold State.beginClose; split <;> simp

@[simp] theorem State.turnOpen_frame (s : State) : OnlyGateway s s.turnOpen := by
  unfold State.turnOpen; split <;> simp

@[simp] theorem State.turnClose_frame (s : State) : OnlyGateway s s.turnClose := by
  unfold State.turnClose; split <;> simp

@[simp] theorem State.commandTaken_frame (s : State) : OnlyGateway s s.commandTaken := by
  simp [State.commandTaken]

@[simp] theorem State.movementCommanded_frame (s : State) : OnlyGateway s s.movementCommanded := by
  simp [State.movementCommanded]

@[simp] theorem State.egressAttempt_frame (s : State) : OnlyGateway s s.egressAttempt := by
  unfold State.egressAttempt; split <;> simp

@[simp] theorem State.openCommand_frame (s : State) (e : Bool) : OnlyGateway s (s.openCommand e) := by
  unfold State.openCommand; split <;> (try split) <;> simp

@[simp] theorem State.closeCommand_frame (s : State) : OnlyGateway s s.closeCommand := by
  unfold State.closeCommand; split <;> (try split) <;> simp

@[simp] theorem State.plateBroken_frame (s : State) : OnlyGateway s s.plateBroken := by
  unfold State.plateBroken; split <;> [skip; split] <;> simp

@[simp] theorem State.halt_frame (s : State) (c : FaultCause) : OnlyGateway s (s.halt c) := by
  simp [State.halt]

@[simp] theorem State.clearLatch_frame (s : State) : OnlyGateway s s.clearLatch := by
  unfold State.clearLatch; split
  · split
    · dsimp only; split <;> simp
    · simp
  · simp

@[simp] theorem State.barrierEgress_frame (s : State) : OnlyGateway s s.barrierEgress := by
  unfold State.barrierEgress; dsimp only; split <;> simp

/-! ## The lane -/

@[simp] theorem State.tallyCheck_frame (s : State) : OnlyDesk s s.tallyCheck := by
  unfold State.tallyCheck; split <;> simp

@[simp] theorem State.authorise_frame (s : State) (n : Nat) : OnlyGateway s (s.authorise n) := by
  unfold State.authorise; dsimp only; split <;> simp

@[simp] theorem State.admitParty_frame (s : State) (n p w : Nat) : OnlyGateway s (s.admitParty n p w) := by
  simp [State.admitParty]

@[simp] theorem State.awaitLink_frame (s : State) (p : Presentation) : OnlyDesk s (s.awaitLink p) := by
  simp [State.awaitLink]

@[simp] theorem State.claimReport_frame (s : State) (c : ClaimCause) : OnlyGateway s (s.claimReport c) := by
  unfold State.claimReport; split
  · simp
  · split
    · split
      · split <;> simp
      · simp
    · simp

@[simp] theorem State.endClaimWith_frame (s : State) (c : ClaimCause) : OnlyGateway s (s.endClaimWith c) := by
  unfold State.endClaimWith; split <;> simp

@[simp] theorem State.refund_frame (s : State) (c : RefundCause) : OnlyDesk s (s.refund c) := by
  unfold State.refund; split
  · simp
  · dsimp only; split <;> simp

@[simp] theorem State.unarmTracker_frame (s : State) : OnlyDesk s s.unarmTracker := by
  simp [State.unarmTracker]

@[simp] theorem State.countUnit_frame (s : State) (k : UnitCount) : OnlyDesk s (s.countUnit k).1 := by
  unfold State.countUnit; split
  · simp
  · split
    · split <;> simp
    · simp

@[simp] theorem State.countUnits_frame (n : Nat) (s : State) (k : UnitCount) : OnlyDesk s (State.countUnits n s k).1 := by
  induction n generalizing s k with
  | zero => simp [State.countUnits]
  | succ n ih => simp [State.countUnits, ih]

@[simp] theorem State.countForward_frame (s : State) (m : Bool) : OnlyDesk s (s.countForward m) := by
  unfold State.countForward; dsimp only; repeat' split
  all_goals simp

@[simp] theorem settleClear_frame (s t : State) :
    (settleClear s t).port = t.port ∧ (settleClear s t).config = t.config ∧ (settleClear s t).locked = t.locked ∧
      (settleClear s t).events = t.events ∧ (settleClear s t).link = t.link ∧ (settleClear s t).presence = t.presence ∧
      (settleClear s t).vessel = t.vessel ∧ (settleClear s t).view = t.view ∧ (settleClear s t).account = t.account ∧
      (settleClear s t).admission = t.admission ∧ (settleClear s t).list = t.list ∧
      (settleClear s t).converter = t.converter ∧ (settleClear s t).barrier = t.barrier ∧
      (settleClear s t).egress = t.egress ∧ (settleClear s t).pending = t.pending := by
  unfold settleClear; split <;> [split; skip] <;> simp

/-! ## The window view -/

@[simp] theorem State.leftOpen_frame (s : State) : OnlyDesk s s.leftOpen := by
  simp [State.leftOpen]

@[simp] theorem State.viewClose_frame (s : State) : OnlyDesk s s.viewClose := by
  unfold State.viewClose; dsimp only; split <;> simp

@[simp] theorem State.viewOrphan_frame (s : State) : OnlyDesk s s.viewOrphan := by
  unfold State.viewOrphan; split <;> simp

@[simp] theorem State.viewOpen_frame (s : State) (w o : Nat) : OnlyDesk s (s.viewOpen w o) := by
  simp [State.viewOpen]

@[simp] theorem State.viewResume_frame (s : State) : OnlyDesk s s.viewResume := by
  simp [State.viewResume]

@[simp] theorem State.openShown_frame (s : State) (w o : Nat) : OnlyDesk s (s.openShown w o) := by
  unfold State.openShown; split <;> (try split) <;> simp

@[simp] theorem State.abandon_frame (s : State) : OnlyDesk s s.abandon := by
  simp [State.abandon]

@[simp] theorem State.windowEnded_frame (s : State) (c : Bool) : OnlyDesk s (s.windowEnded c) := by
  simp [State.windowEnded]

end Sys2Proof.Machine
end

