-- ==== Sys2Proof/Laws/Blocks.lean ====
section
/-! SUPPORT. What the operations of the lane floor, the vessel station, egress, presence, the list and the link controller leave
alone: one lemma per operation, read by simp as one rule per field. -/

namespace Sys2Proof.Machine

/-! ## The relations -/

/-- `t` differs from `s` at most in the gate's bookkeeping, the vessel half, the converter and the barrier. -/
@[simp] abbrev OnlyFloor (s t : State) : Prop :=
  t.port = s.port ∧ t.config = s.config ∧ t.locked = s.locked ∧ t.presence = s.presence ∧ t.list = s.list ∧
    t.egress = s.egress ∧ t.pending = s.pending

/-- `t` differs from `s` at most in the vessel half, the link controller and the events. -/
@[simp] abbrev OnlyVessel (s t : State) : Prop :=
  t.port = s.port ∧ t.config = s.config ∧ t.locked = s.locked ∧ t.presence = s.presence ∧ t.view = s.view ∧
    t.account = s.account ∧ t.admission = s.admission ∧ t.list = s.list ∧ t.lane = s.lane ∧
    t.converter = s.converter ∧ t.barrier = s.barrier ∧ t.egress = s.egress ∧ t.pending = s.pending

/-- `t` keeps the host port, the configuration, the converter and the queue of commands of `s`. -/
@[simp] abbrev KeepsPort (s t : State) : Prop :=
  t.port = s.port ∧ t.config = s.config ∧ t.locked = s.locked ∧ t.converter = s.converter ∧ t.pending = s.pending

/-! ## The lane floor -/

@[simp] theorem State.alight_frame (s : State) : OnlyFloor s s.alight ∧ s.alight.converter = s.converter ∧
    s.alight.barrier = s.barrier ∧ s.alight.lane = s.lane := by
  unfold State.alight; dsimp only; split <;> simp

@[simp] theorem State.passageComplete_frame (s : State) (d : Direction) (m : Bool) :
    OnlyFloor s (s.passageComplete d m) ∧ (s.passageComplete d m).converter = s.converter ∧
      (s.passageComplete d m).barrier = s.barrier := by
  unfold State.passageComplete; split
  · simp
  · split <;> split <;> simp

@[simp] theorem State.trackerChange_frame (s : State) (p : PlateId) (old : PlateClass) :
    OnlyFloor s (s.trackerChange p old) ∧ (s.trackerChange p old).converter = s.converter ∧
      (s.trackerChange p old).barrier = s.barrier := by
  unfold State.trackerChange; dsimp only
  repeat' split
  all_goals simp

@[simp] theorem State.loiterChange_frame (s : State) (p : PlateId) (old : PlateClass) :
    OnlyDesk s (s.loiterChange p old) := by
  unfold State.loiterChange; dsimp only; split <;> [skip; split] <;> simp

@[simp] theorem State.alightOpen_frame (s : State) (p : PlateId) (old : PlateClass) :
    OnlyGateway s (s.alightOpen p old) := by
  unfold State.alightOpen; split <;> simp

@[simp] theorem State.deliverClass_frame (s : State) (p : PlateId) (old : PlateClass) :
    OnlyFloor s (s.deliverClass p old) ∧ (s.deliverClass p old).converter = s.converter := by
  unfold State.deliverClass; dsimp only; split <;> simp

@[simp] theorem State.takeFlow_frame (s : State) : OnlyGateway s s.takeFlow := by
  unfold State.takeFlow; dsimp only
  repeat' split
  all_goals simp

@[simp] theorem State.takeAlight_frame (s : State) : OnlyDesk s s.takeAlight := by
  unfold State.takeAlight; split <;> simp

@[simp] theorem State.clearPlateFaults_frame (s : State) :
    OnlyFloor s s.clearPlateFaults ∧ s.clearPlateFaults.barrier = s.barrier := by
  simp [State.clearPlateFaults]

@[simp] theorem State.clearFaults_frame (s : State) : OnlyFloor s s.clearFaults.1 := by
  unfold State.clearFaults; dsimp only
  repeat' split
  all_goals simp

@[simp] theorem State.restartLane_frame (s : State) : OnlyFloor s s.restartLane.1 := by
  unfold State.restartLane; dsimp only
  repeat' split
  all_goals simp

@[simp] theorem State.laneEgress_frame (s : State) : OnlyDesk s s.laneEgress := by
  simp [State.laneEgress]

@[simp] theorem State.laneEgressEnd_frame (s : State) : OnlyDesk s s.laneEgressEnd := by
  unfold State.laneEgressEnd; split
  · dsimp only; split <;> simp
  · simp

@[simp] theorem State.settleCheck_frame (s : State) : OnlyDesk s s.settleCheck := by
  unfold State.settleCheck; split <;> simp

@[simp] theorem State.goodConversion_frame (s : State) (p : PlateId) (r : Nat) : OnlyFloor s (s.goodConversion p r) := by
  unfold State.goodConversion; dsimp only; split <;> simp

@[simp] theorem State.plateFault_frame (s : State) (p : PlateId) (k : ConversionResult) :
    OnlyFloor s (s.plateFault p k) := by
  unfold State.plateFault; dsimp only; split <;> simp

@[simp] theorem State.badConversion_frame (s : State) (p : PlateId) (k : ConversionResult) :
    OnlyFloor s (s.badConversion p k) := by
  unfold State.badConversion; dsimp only; split <;> simp

@[simp] theorem State.switchActive_frame (s : State) (e : EndId) : OnlyGateway s (s.switchActive e) := by
  unfold State.switchActive
  repeat' split
  all_goals simp

@[simp] theorem State.stallByMode_frame (s : State) : OnlyGateway s s.stallByMode := by
  unfold State.stallByMode; split <;> (try split) <;> simp

@[simp] theorem State.takePosition_frame (s : State) (e : EndId) : OnlyGateway s (s.takePosition e) := by
  simp [State.takePosition]

@[simp] theorem State.travelByMode_frame (s : State) : OnlyGateway s s.travelByMode := by
  unfold State.travelByMode; split <;> (try split) <;> simp

@[simp] theorem State.obstruction_frame (s : State) : OnlyGateway s s.obstruction := by
  unfold State.obstruction; dsimp only
  repeat' split
  all_goals simp

@[simp] theorem State.endPause_frame (s : State) : OnlyGateway s s.endPause := by
  unfold State.endPause; dsimp only
  repeat' split
  all_goals simp

/-! ## The vessel station -/

@[simp] theorem State.overCapacityCheck_frame (s : State) :
    OnlyVessel s s.overCapacityCheck ∧ s.overCapacityCheck.vessel = s.vessel := by
  unfold State.overCapacityCheck; split <;> simp

@[simp] theorem State.completeWindow_frame (s : State) (c : Bool) : OnlyVessel s (s.completeWindow c) := by
  simp [State.completeWindow]

@[simp] theorem State.completionCheck_frame (s : State) : OnlyVessel s s.completionCheck := by
  unfold State.completionCheck; split <;> simp

@[simp] theorem State.closeWindow_frame (s : State) (c : CloseCause) : OnlyVessel s (s.closeWindow c) := by
  unfold State.closeWindow; split <;> simp

@[simp] theorem State.accountLostTest_frame (s : State) (g : Station) (r : GateStatus) :
    OnlyVessel s (s.accountLostTest g r) := by
  unfold State.accountLostTest; dsimp only; split <;> simp

@[simp] theorem State.markDue_frame (s : State) (g : Station) : OnlyVessel s (s.markDue g) := by
  simp [State.markDue]

@[simp] theorem State.repairGrant_frame (s : State) (g : Station) (r : GateStatus) : OnlyVessel s (s.repairGrant g r) := by
  unfold State.repairGrant; split <;> simp

@[simp] theorem State.gateStatusHeard_frame (s : State) (g : Station) (w : Byte) (r : GateStatus) :
    OnlyVessel s (s.gateStatusHeard g w r) := by
  unfold State.gateStatusHeard; split <;> simp

@[simp] theorem State.lateTally_frame (s : State) (c : ClosedWindow) (g : Station) (r : GateStatus) :
    OnlyVessel s (s.lateTally c g r) := by
  simp [State.lateTally]

@[simp] theorem State.tallyHeard_frame (s : State) (g : Station) (w : Byte) (r : GateStatus) :
    OnlyVessel s (s.tallyHeard g w r) := by
  unfold State.tallyHeard
  repeat' split
  all_goals simp

@[simp] theorem State.windowFullCheck_frame (s : State) : OnlyVessel s s.windowFullCheck := by
  unfold State.windowFullCheck; split <;> simp

@[simp] theorem State.claimHeard_frame (s : State) (g : Station) (w : Byte) (n : Nat) :
    OnlyVessel s (s.claimHeard g w n) := by
  unfold State.claimHeard; split <;> simp

@[simp] theorem State.requeueGrant_frame (s : State) :
    OnlyVessel s s.requeueGrant ∧ s.requeueGrant.vessel = s.vessel := by
  unfold State.requeueGrant; split <;> simp

@[simp] theorem State.grantCompleted_frame (s : State) (f : Frame) : OnlyVessel s (s.grantCompleted f) := by
  unfold State.grantCompleted; split <;> simp

/-! ## The gate's view, the list, egress -/

@[simp] theorem State.grantEndsClaim_frame (s : State) (r : Nat) : OnlyGateway s (s.grantEndsClaim r) := by
  unfold State.grantEndsClaim
  repeat' split
  all_goals simp

@[simp] theorem State.grantHeard_frame (s : State) (w : Byte) (b : List Byte) : OnlyGateway s (s.grantHeard w b) := by
  unfold State.grantHeard; dsimp only
  repeat' split
  all_goals simp

@[simp] theorem State.offerHeard_frame (s : State) (w : Byte) (b : List Byte) : OnlyDesk s (s.offerHeard w b) := by
  simp [State.offerHeard]

@[simp] theorem State.closeHeard_frame (s : State) (w : Byte) : OnlyDesk s (s.closeHeard w) := by
  unfold State.closeHeard; split <;> simp

@[simp] theorem State.vesselStatusHeard_frame (s : State) (w : Byte) (b : List Byte) :
    OnlyDesk s (s.vesselStatusHeard w b) := by
  unfold State.vesselStatusHeard
  repeat' split
  all_goals simp

/-- `t` differs from `s` in the recent admission list and the events alone. -/
@[simp] abbrev OnlyList (s t : State) : Prop :=
  t.port = s.port ∧ t.config = s.config ∧ t.locked = s.locked ∧ t.link = s.link ∧ t.presence = s.presence ∧
    t.vessel = s.vessel ∧ t.view = s.view ∧ t.account = s.account ∧ t.admission = s.admission ∧ t.lane = s.lane ∧
    t.converter = s.converter ∧ t.barrier = s.barrier ∧ t.egress = s.egress ∧ t.pending = s.pending

@[simp] theorem State.insertEntry_frame (s : State) (e : ListEntry) : OnlyList s (s.insertEntry e) := by
  unfold State.insertEntry
  repeat' split
  all_goals simp

@[simp] theorem State.offerTicket_frame (s : State) (k : TicketKey) (c p : Nat) (g : Station) (w : Nat)
    (o : ListOrigin) : OnlyList s (s.offerTicket k c p g w o) := by
  unfold State.offerTicket; split
  · simp
  · dsimp only; split <;> simp

@[simp] theorem State.awaitPlaces_frame (s : State) (p : Presentation) : OnlyDesk s (s.awaitPlaces p) := by
  simp [State.awaitPlaces]

@[simp] theorem State.acceptPresentation_frame (s : State) (p : Presentation) :
    OnlyGateway s (s.acceptPresentation p) := by
  unfold State.acceptPresentation
  repeat' split
  all_goals simp

@[simp] theorem State.peerTicket_frame (s : State) (g : Station) (k : TicketKey) : OnlyDesk s (s.peerTicket g k) := by
  unfold State.peerTicket; split
  · simp
  · split <;> simp

@[simp] theorem State.egressStatus_frame (s : State) : OnlyLink s s.egressStatus := by
  unfold State.egressStatus; split <;> simp

@[simp] theorem State.egressReturn_frame (s : State) : OnlyAccount s s.egressReturn := by
  unfold State.egressReturn; split <;> simp

@[simp] theorem State.enterEgress_frame (s : State) (o : EgressOrigin) (g : Station) :
    KeepsPort s (s.enterEgress o g) ∧ (s.enterEgress o g).presence = s.presence ∧
      (s.enterEgress o g).list = s.list := by
  simp [State.enterEgress]

@[simp] theorem State.enterOwnEgress_frame (s : State) :
    KeepsPort s s.enterOwnEgress ∧ s.enterOwnEgress.presence = s.presence ∧ s.enterOwnEgress.list = s.list := by
  simp [State.enterOwnEgress]

@[simp] theorem State.leaveEgress_frame (s : State) (c : LeaveCause) (g : Station) :
    KeepsPort s (s.leaveEgress c g) ∧ (s.leaveEgress c g).presence = s.presence ∧
      (s.leaveEgress c g).list = s.list ∧ (s.leaveEgress c g).vessel = s.vessel := by
  simp [State.leaveEgress]

@[simp] theorem State.egressHeard_frame (s : State) (g : Station) :
    KeepsPort s (s.egressHeard g) ∧ (s.egressHeard g).presence = s.presence ∧ (s.egressHeard g).list = s.list := by
  unfold State.egressHeard; split <;> simp

@[simp] theorem State.egressFlagHeard_frame (s : State) (g : Station) :
    KeepsPort s (s.egressFlagHeard g) ∧ (s.egressFlagHeard g).presence = s.presence ∧
      (s.egressFlagHeard g).list = s.list := by
  unfold State.egressFlagHeard; split <;> simp

@[simp] theorem State.egressEndHeard_frame (s : State) (g : Station) :
    KeepsPort s (s.egressEndHeard g) ∧ (s.egressEndHeard g).presence = s.presence ∧
      (s.egressEndHeard g).list = s.list ∧ (s.egressEndHeard g).vessel = s.vessel := by
  unfold State.egressEndHeard
  repeat' split
  all_goals simp

@[simp] theorem State.inputRaised_frame (s : State) :
    KeepsPort s s.inputRaised ∧ s.inputRaised.presence = s.presence ∧ s.inputRaised.list = s.list := by
  unfold State.inputRaised
  repeat' split
  all_goals simp

/-! ## Presence and the link controller -/

/-- `t` differs from `s` in the presence unit, the link controller and the events alone. -/
@[simp] abbrev OnlyPresence (s t : State) : Prop :=
  t.port = s.port ∧ t.config = s.config ∧ t.locked = s.locked ∧ t.vessel = s.vessel ∧ t.view = s.view ∧
    t.account = s.account ∧ t.admission = s.admission ∧ t.list = s.list ∧ t.lane = s.lane ∧
    t.converter = s.converter ∧ t.barrier = s.barrier ∧ t.egress = s.egress ∧ t.pending = s.pending

@[simp] theorem State.heardAtStation_frame (s : State) (g : Station) : OnlyPresence s (s.heardAtStation g) := by
  unfold State.heardAtStation; dsimp only; split <;> simp

@[simp] theorem State.peerHeard_frame (s : State) (g : Station) : OnlyPresence s (s.peerHeard g) := by
  unfold State.peerHeard; dsimp only; split <;> simp

@[simp] theorem State.frameTaken_frame (s : State) (g : Station) : OnlyLink s (s.frameTaken g) := by
  simp [State.frameTaken]

@[simp] theorem State.recordStatus_frame (s : State) (g : Station) (w : Byte) (b : List Byte) :
    OnlyPresence s (s.recordStatus g w b) ∧ (s.recordStatus g w b).link = s.link ∧
      (s.recordStatus g w b).events = s.events := by
  simp [State.recordStatus]

@[simp] theorem State.statusHeard_frame (g : Station) (w : Byte) (b : List Byte) (s : State) :
    KeepsPort s (State.statusHeard g w b s) ∧ (State.statusHeard g w b s).list = s.list := by
  unfold State.statusHeard; dsimp only
  repeat' split
  all_goals simp

@[simp] theorem State.ticketHeard_frame (g : Station) (w : Byte) (b : List Byte) (s : State) :
    KeepsPort s (State.ticketHeard g w b s) := by
  simp [State.ticketHeard]

/-- A good frame heard keeps what its delivery keeps. -/
theorem State.heard_keepsPort (s : State) (g : Station) (passes : Bool) (deliver : State → State)
    (h : ∀ t, KeepsPort t (deliver t)) : KeepsPort s (s.heard g passes deliver) := by
  unfold State.heard; dsimp only
  repeat' split
  all_goals simp_all

@[simp] theorem State.serveDeferred_frame (s : State) : OnlyLink s s.serveDeferred := by
  simp [State.serveDeferred]

@[simp] theorem State.startHead_frame (s : State) (e : TxEntry) (r : List TxEntry) (n : Nat) :
    OnlyLink s (s.startHead e r n) := by
  unfold State.startHead; split <;> simp

@[simp] theorem State.loseOnce_frame (s : State) (e : TxEntry) (r : List TxEntry) : OnlyDesk s (s.loseOnce e r) := by
  unfold State.loseOnce; dsimp only; split <;> simp

@[simp] theorem State.dropReport_frame (s : State) (e : TxEntry) : OnlyEvents s (s.dropReport e) := by
  unfold State.dropReport; split <;> simp

@[simp] theorem State.ownerDropped_frame (s : State) (e : TxEntry) :
    KeepsPort s (s.ownerDropped e) ∧ (s.ownerDropped e).presence = s.presence ∧ (s.ownerDropped e).list = s.list ∧
      (s.ownerDropped e).vessel = s.vessel ∧ (s.ownerDropped e).barrier = s.barrier := by
  unfold State.ownerDropped; split <;> simp

@[simp] theorem State.requeueMarked_frame (s : State) (e : TxEntry) : OnlyLink s (s.requeueMarked e) := by
  unfold State.requeueMarked; repeat' split <;> simp

@[simp] theorem State.loseThird_frame (s : State) (e : TxEntry) (r : List TxEntry) :
    KeepsPort s (s.loseThird e r) ∧ (s.loseThird e r).presence = s.presence ∧ (s.loseThird e r).list = s.list ∧
      (s.loseThird e r).vessel = s.vessel ∧ (s.loseThird e r).barrier = s.barrier := by
  simp [State.loseThird]

@[simp] theorem State.lose_frame (s : State) :
    KeepsPort s s.lose ∧ s.lose.presence = s.presence ∧ s.lose.list = s.list ∧ s.lose.vessel = s.vessel ∧
      s.lose.barrier = s.barrier := by
  unfold State.lose
  repeat' split
  all_goals simp

@[simp] theorem State.statusCompleted_frame (s : State) (f : Frame) : OnlyAccount s (s.statusCompleted f) := by
  unfold State.statusCompleted; split <;> simp

@[simp] theorem State.ticketCompleted_frame (s : State) (e : TxEntry) :
    KeepsPort s (s.ticketCompleted e) ∧ (s.ticketCompleted e).presence = s.presence ∧
      (s.ticketCompleted e).vessel = s.vessel ∧ (s.ticketCompleted e).egress = s.egress := by
  unfold State.ticketCompleted; dsimp only
  repeat' split
  all_goals simp

@[simp] theorem State.ownerCompleted_frame (s : State) (e : TxEntry) (f : Frame) :
    KeepsPort s (s.ownerCompleted e f) ∧ (s.ownerCompleted e f).presence = s.presence := by
  unfold State.ownerCompleted; split <;> simp

@[simp] theorem State.startLane_frame (s : State) : OnlyGateway s s.startLane := by
  unfold State.startLane
  repeat' split
  all_goals simp

end Sys2Proof.Machine
end

