-- ==== Sys2Proof/Laws/Words.lean ====
section
/-! SUPPORT. What the words of Safety.lean come to: a good frame heard, what is left alone when it is delivered, one row or
entry of a table after an update, and the clear timer when nothing changes. -/

namespace Sys2Proof.Machine

/-! ## A good frame delivered -/

/-- A good frame that the station hears and that passes its format check is handed to its owner in the delivered state. -/
theorem State.heard_of_hears (s : State) (g : Station) (deliver : State → State) (h : s.hears g) :
    s.heard g true deliver = deliver (s.delivered g) := by
  obtain ⟨h1, h2, h3⟩ := h
  simp [State.heard, h1, State.isReported, h2, h3, State.delivered]

@[simp] theorem State.heardAtStation_number (s : State) (g : Station) :
    (s.heardAtStation g).presence.number = s.presence.number := by
  unfold State.heardAtStation; dsimp only; split <;> simp

@[simp] theorem State.peerHeard_number (s : State) (g : Station) :
    (s.peerHeard g).presence.number = s.presence.number := by
  unfold State.peerHeard; dsimp only; split <;> simp [Presence.setPeer]

@[simp] theorem State.delivered_number (s : State) (g : Station) :
    (s.delivered g).presence.number = s.presence.number := by
  simp [State.delivered]

@[simp] theorem State.delivered_frame (s : State) (g : Station) :
    (s.delivered g).port = s.port ∧ (s.delivered g).config = s.config ∧ (s.delivered g).locked = s.locked ∧
      (s.delivered g).vessel = s.vessel ∧ (s.delivered g).view = s.view ∧ (s.delivered g).account = s.account ∧
      (s.delivered g).admission = s.admission ∧ (s.delivered g).list = s.list ∧ (s.delivered g).lane = s.lane ∧
      (s.delivered g).converter = s.converter ∧ (s.delivered g).barrier = s.barrier ∧
      (s.delivered g).egress = s.egress ∧ (s.delivered g).pending = s.pending := by
  simp [State.delivered]

/-! ## One entry of a table -/

@[simp] theorem Vessel.row_setRow (v : Vessel) (g : Station) (x : GateRow) : (v.setRow g x).row g = x := by
  simp [Vessel.setRow, Vessel.row]

@[simp] theorem Vessel.setRow_setRow (v : Vessel) (g : Station) (x y : GateRow) :
    (v.setRow g x).setRow g y = v.setRow g y := by
  simp [Vessel.setRow]

@[simp] theorem Vessel.setRow_row (v : Vessel) (g : Station) : v.setRow g (v.row g) = v := by
  simp [Vessel.setRow, Vessel.row]

@[simp] theorem Presence.peer_setPeer (p : Presence) (n : Station) (x : Peer) : (p.setPeer n x).peer n = x := by
  simp [Presence.setPeer, Presence.peer]

@[simp] theorem Presence.setPeer_setPeer (p : Presence) (n : Station) (x y : Peer) :
    (p.setPeer n x).setPeer n y = p.setPeer n y := by
  simp [Presence.setPeer]

@[simp] theorem Converter.plate_setPlate (c : Converter) (p : PlateId) (x : Plate) : (c.setPlate p x).plate p = x := by
  cases p <;> rfl

@[simp] theorem Converter.plate_setPlate_other (c : Converter) (p : PlateId) (x : Plate) :
    (c.setPlate p x).plate (otherPlate p) = c.plate (otherPlate p) := by
  cases p <;> rfl

/-! ## The gate place account -/

/-- Without a presentation nothing is set aside. -/
theorem State.partyAside_of_none (s : State) (h : s.admission.record = none) : s.partyAside = 0 := by
  simp [State.partyAside, h]

/-- A presentation in AWAIT_LINK has its party set aside. -/
theorem State.partyAside_of_awaitLink (s : State) (p : Presentation) (h : s.admission.record = some p)
    (hl : p.state = .awaitLink) : s.partyAside = p.party := by
  simp [State.partyAside, h, hl]

/-- A presentation in AWAIT_PLACES has nothing set aside. -/
theorem State.partyAside_of_awaitPlaces (s : State) (p : Presentation) (h : s.admission.record = some p)
    (hl : p.state = .awaitPlaces) : s.partyAside = 0 := by
  simp [State.partyAside, h, hl]

@[simp] theorem State.partyAside_setPort (s : State) (x : HostPort) : (s.setPort x).partyAside = s.partyAside := rfl
@[simp] theorem State.partyAside_setConfig (s : State) (x : ConfigRecord) : (s.setConfig x).partyAside = s.partyAside := rfl
@[simp] theorem State.partyAside_setLocked (s : State) (x : Bool) : (s.setLocked x).partyAside = s.partyAside := rfl
@[simp] theorem State.partyAside_setEvents (s : State) (x : EventQueue) : (s.setEvents x).partyAside = s.partyAside := rfl
@[simp] theorem State.partyAside_setLink (s : State) (x : Link) : (s.setLink x).partyAside = s.partyAside := rfl
@[simp] theorem State.partyAside_setPresence (s : State) (x : Presence) : (s.setPresence x).partyAside = s.partyAside := rfl
@[simp] theorem State.partyAside_setVessel (s : State) (x : Vessel) : (s.setVessel x).partyAside = s.partyAside := rfl
@[simp] theorem State.partyAside_setView (s : State) (x : WindowView) : (s.setView x).partyAside = s.partyAside := rfl
@[simp] theorem State.partyAside_setAccount (s : State) (x : Account) : (s.setAccount x).partyAside = s.partyAside := rfl
@[simp] theorem State.partyAside_setList (s : State) (x : RecentList) : (s.setList x).partyAside = s.partyAside := rfl
@[simp] theorem State.partyAside_setLane (s : State) (x : Lane) : (s.setLane x).partyAside = s.partyAside := rfl
@[simp] theorem State.partyAside_setConverter (s : State) (x : Converter) : (s.setConverter x).partyAside = s.partyAside := rfl
@[simp] theorem State.partyAside_setBarrier (s : State) (x : Barrier) : (s.setBarrier x).partyAside = s.partyAside := rfl
@[simp] theorem State.partyAside_setEgress (s : State) (x : Egress) : (s.setEgress x).partyAside = s.partyAside := rfl
@[simp] theorem State.partyAside_setPending (s : State) (x : List Instr) : (s.setPending x).partyAside = s.partyAside := rfl

/-- What is set aside is read from the presentation alone. -/
theorem State.partyAside_congr (s t : State) (h : t.admission = s.admission) : t.partyAside = s.partyAside := by
  simp only [State.partyAside, h]

/-- The balance is read from the place account and the lane alone. -/
theorem State.inBalance_congr (s t : State) (ha : t.account = s.account) (hl : t.lane = s.lane) :
    t.inBalance ↔ s.inBalance := by
  simp only [State.inBalance, ha, hl]

/-- The vessel role has no place account to keep (R26). -/
theorem State.accountSound_of_vessel (s : State) (h : s.isGate = false) : s.accountSound := by
  intro hg; rw [h] at hg; exact nomatch hg

/-- A command that leaves the account, the admission unit, the lane, the view, the transmit queue and the number alone keeps the
account sound. -/
theorem State.accountSound_congr (s t : State) (hp : t.presence.number = s.presence.number) (ha : t.account = s.account)
    (hd : t.admission = s.admission) (hl : t.lane = s.lane) (hv : t.view = s.view) (hq : t.link.queue = s.link.queue)
    (h : s.accountSound) : t.accountSound := by
  simp only [State.accountSound, State.inBalance, State.partyAside, State.isGate, State.isVessel, State.ticketStarted,
    State.isSending, hp, ha, hd, hl, hv, hq] at h ⊢
  exact h

/-! ## The clear timer and the deferred slot -/

/-- A state whose clear timer runs only on its condition is settled already. -/
theorem settleClear_self (s : State) (h : s.clearSettled) : settleClear s s = s := by
  unfold settleClear
  cases hc : s.clearCondition
  · have := h hc
    simp only [Bool.false_eq_true, if_false]
    rw [← this]
    rfl
  · simp

/-- After any event the clear timer runs only on its condition. -/
theorem settleClear_clearSettled (s t : State) : (settleClear s t).clearSettled := by
  have key : ∀ x : Timer, (t.setLane { t.lane with clearTimer := x }).clearCondition = t.clearCondition := fun _ => rfl
  unfold settleClear State.clearSettled
  split
  · split
    · intro hc; simp_all
    · intro hc; rw [key] at hc; simp_all
  · intro _; rfl

/-- With the deferred slot empty nothing is served. -/
@[simp] theorem State.serveDeferred_of_none (s : State) (h : s.link.deferred = none) : s.serveDeferred = s := by
  simp [State.serveDeferred, Link.takeDeferred, h]

end Sys2Proof.Machine
end

