-- ==== Sys2Proof/WellFormed.lean ====
section
/-! DEFINITION. Which operands a command can carry, by the ranges the manual gives them. The meanings are total and do not
rest on these checks; they say which commands the lines of the part can bring. -/

namespace Sys2Proof

/-- A frame body has 0 to 24 bytes (R4). -/
def bodyFits (body : List Byte) : Bool := decide (body.length ≤ 24)

/-- The operand ranges of a command.
CONFIGURE carries 30 payload bytes (R184); the self-test receiver reads at most 320 bit times (R24); a frame body has at
most 24 bytes (R4); a RUNDOWN tick lies in the tick counter's 0 to 8191 (R145); a message has at least the kind and length
bytes, and at most the 63 bytes of the request buffer (R183). -/
def Instr.wellFormed : Instr → Bool
  | .configure payload => decide (payload.length = 30)
  | .selftestEnd received => decide (received.length ≤ Config.selftestBits)
  | .unknownKindFrame _ _ _ body => bodyFits body
  | .statusFrame _ _ body => bodyFits body
  | .offerFrame _ _ body => bodyFits body
  | .closeFrame _ _ body => bodyFits body
  | .claimFrame _ _ body => bodyFits body
  | .grantFrame _ _ body => bodyFits body
  | .ticketFrame _ _ body => bodyFits body
  | .tallyFrame _ _ body => bodyFits body
  | .egressFrame _ _ body => bodyFits body
  | .egressEndFrame _ _ body => bodyFits body
  | .rundownCrossing r => decide (r ≤ 8191)
  | .requestFailsMessageCheck message => decide (2 ≤ message.length) && decide (message.length ≤ 63)
  | .fullReset _ | .hostSessionEnd _ | .replyReady | .identify | .selftest | .start | .reset | .lookup _ | .query _
  | .readEvent | .peekEvent | .setMask _ | .laneRestart | .clearFault | .egressEnd | .present _ _ _ | .cancel _
  | .hold | .release | .openWindow | .closeWindow | .setOnboard _ | .setLaneMode _ | .lineIdle | .transmitStart _
  | .lostArbitration | .readbackFault | .ownFrameComplete | .badFrame _ | .frameAbortHeard | .listenTimerExpiry
  | .isolationTimerExpiry | .rollTimerExpiry | .silenceTimerExpiry _ | .tallyTimerExpiry | .orphanTimerExpiry
  | .keptDemandStart | .claimRepeatTimerExpiry | .claimWaitTimerExpiry | .listSecondTimerExpiry | .passageWaitExpiry
  | .clearTimerExpiry | .trackerArm | .loiterTimerExpiry _ | .zeroPhaseEnd _ | .integratePhaseEnd | .rundownOverrange
  | .endSwitchActive _ | .endSwitchInactive _ | .stall | .brakeTimerExpiry | .travelTimerExpiry | .pauseTimerExpiry
  | .pendingCloseTaken | .reDriveStart | .egressInputActive | .egressInputInactive | .hselAsserted
  | .hostByteCompleted _ | .lineBusy | .openingFlagFound | .millisecondCountAdvance => true

end Sys2Proof
end

