-- ==== Sys2Proof/Tests/Slice0.lean ====
section
/-! SUPPORT. Small tests: the operand checks refuse ill-formed commands, frames and messages come out as the manual writes them,
single commands on small states, and for every statement of Obligations.lean that has hypotheses a state and operands that meet
them, clause by clause. -/

namespace Sys2Proof.Tests

open Sys2Proof Sys2Proof.Machine

/-! ## Well-formed operands -/

/-- A body of n bytes. -/
def zeros (n : Nat) : List Byte := List.replicate n 0

theorem test_wellFormed_configure : (Instr.configure (zeros 30)).wellFormed = true ∧
    (Instr.configure (zeros 29)).wellFormed = false ∧ (Instr.configure (zeros 31)).wellFormed = false := by decide

theorem test_wellFormed_selftestEnd : (Instr.selftestEnd (List.replicate 321 true)).wellFormed = false := by
  decide +kernel

theorem test_wellFormed_rundownCrossing :
    (Instr.rundownCrossing 8191).wellFormed = true ∧ (Instr.rundownCrossing 8192).wellFormed = false := by decide

theorem test_wellFormed_message : (Instr.requestFailsMessageCheck (zeros 1)).wellFormed = false ∧
    (Instr.requestFailsMessageCheck (zeros 64)).wellFormed = false := by decide

theorem test_wellFormed_bodies :
    [Instr.unknownKindFrame 1 0 0 (zeros 25), .statusFrame 1 0 (zeros 25), .offerFrame 1 0 (zeros 25),
      .closeFrame 1 0 (zeros 25), .claimFrame 1 0 (zeros 25), .grantFrame 1 0 (zeros 25), .ticketFrame 1 0 (zeros 25),
      .tallyFrame 1 0 (zeros 25), .egressFrame 1 0 (zeros 25), .egressEndFrame 1 0 (zeros 25)].all
      (fun c => !c.wellFormed) = true ∧ (Instr.statusFrame 1 0 (zeros 24)).wellFormed = true := by decide

theorem test_no_word_spells_a_command : decodeTableWord 8 0 = none ∧ decodeTableWord 32 0xFFFFFFFF = none := by decide

/-! ## Frames and messages -/

/-- The CRC with these parameters has the check value 0x6F91 in its bit-reversed form; 0x89F6 is that value's mirror. -/
theorem test_crc_check_value :
    crc [0x31, 0x32, 0x33, 0x34, 0x35, 0x36, 0x37, 0x38, 0x39] = 0x89F6 := by decide +kernel

theorem test_five_ones_are_followed_by_a_zero :
    stuff 0 (byteBits 0xFF) = [true, true, true, true, true, false, true, true, true] := by decide

theorem test_test_frame_comes_back : ∀ n : Station, selftestResult n (testFrame n).lineBits = .pass := by
  decide +kernel

theorem test_no_bits_no_flag : selftestResult 3 [] = .noFlag := by decide

/-- Five 1s and a 0 that is both an inserted bit and the flag's first 0 (R3): the content keeps all five. -/
theorem test_flag_after_five_ones_keeps_them :
    deframe (.hunting none) (flagBits ++ List.replicate 5 true ++ flagBits) = some (List.replicate 5 true) := by decide

/-- Two flags that share a 0 are an opening flag and a new one, and no frame (log entry 32). -/
theorem test_flags_that_share_a_zero_end_no_frame :
    deframe (.hunting none) (flagBits ++ flagBits.tail) = none ∧
      deframe (.hunting none) (flagBits ++ flagBits.tail ++ [false, true] ++ flagBits) = some [false, true] := by decide

theorem test_bad_crc_is_told :
    selftestResult 3 ({ testFrame 3 with window := 1 } : Frame).lineBits = .crc ∧
      selftestResult 3 ({ testFrame 3 with body := [1] } : Frame).lineBits = .length := by decide +kernel

theorem test_ok_message_sums_to_zero : Reply.message ⟨1, []⟩ = [1, 0, 255] := by decide

theorem test_default_record_is_in_range : ConfigRecord.default.inRange := by
  unfold ConfigRecord.inRange; decide +kernel

/-! ## Small states -/

/-- The outcome of a command is a next state that passes a check. -/
def answers (c : Instr) (s : State) (check : State → Bool) : Bool :=
  match exec c s with
  | .next t => check t
  | _ => false

/-- Gate station 3, ACTIVE. -/
def gate : State :=
  { State.afterReset 3 false with presence := { Presence.afterReset 3 with state := .active } }

/-- The vessel station, ACTIVE. -/
def vessel : State :=
  { State.afterReset 0 false with presence := { Presence.afterReset 0 with state := .active } }

/-- Gate 3 with window 5 in view, `n` credits held and the barrier closed. -/
def ready (n : Nat) : State :=
  { gate with
    view := { gate.view with state := .opened, number := 5 }
    account := { gate.account with granted := n, announced := true }
    barrier := { gate.barrier with state := .closed, closedSwitch := true } }

/-- A station in a window state. -/
def windowAt (w : WindowState) : State :=
  { vessel with vessel := { vessel.vessel with state := w, number := 5, remainder := 7, offer := 7 } }

/-- The lane in a state. -/
def laneAt (s : State) (l : LaneState) : State := { s with lane := { s.lane with state := l } }

/-- The barrier in a state. -/
def barrierAt (s : State) (b : BarrierState) : State := { s with barrier := { s.barrier with state := b } }

/-- A plate classed OCCUPIED. -/
def occupied (s : State) : State :=
  { s with converter := { s.converter with plateA := { s.converter.plateA with cls := .occupied } } }

/-- The station in egress. -/
def evacuating (s : State) : State :=
  { s with
    egress := { s.egress with state := .egress, origin := .own }
    lane := { s.lane with state := .egress }
    barrier := { s.barrier with egressMark := true, state := .opened } }

/-- An entry of the transmit queue. -/
def entry (k : FrameKind) (sending : Bool) (attempts : Nat) : TxEntry :=
  { TxEntry.fresh k with
    sending := sending
    attempts := attempts
    ticket := if k = .ticket then some ⟨5, 77, 0, 2⟩ else none }

/-- One entry in the transmit queue; a SENDING one has its frame. -/
def queued (s : State) (e : TxEntry) : State :=
  { s with
    link :=
      { s.link with
        queue := [e]
        txFrame := if e.sending then some ⟨s.presence.number, e.kind, 5, [0, 2, 3, 0, 9]⟩ else none } }

/-- A presentation of party 2. -/
def waiting (p : PresentationState) : Presentation :=
  { number := 1, key := 77, cls := 0, party := 2, window := 5, state := p, stopCause := none }

/-- A presentation in progress. -/
def presenting (s : State) (p : PresentationState) : State :=
  { s with admission := { s.admission with record := some (waiting p) } }

/-- A plate in turn in a phase. -/
def inPhase (s : State) (p : Phase) : State :=
  { s with
    converter :=
      { turn := some .a, plateA := { Plate.afterReset with phase := p },
        plateB := { Plate.afterReset with phase := .waiting } } }

/-- A movement toward an end in a barrier state with an output. -/
def moving (s : State) (b : BarrierState) (out : BarrierOutput) (e : EndId) : State :=
  { s with barrier := { s.barrier with state := b, output := out, movement := some ⟨e, .command, false⟩ } }

/-- The fault mode set. -/
def modeAt (s : State) (m : FaultMode) : State := { s with config := { s.config with faultMode := m } }

/-- The port in a state, in a session. -/
def portAt (s : State) (p : PortState) : State :=
  { s with port := { s.port with state := p, hsel := true, reply := [1, 0, 255], offered := true, shifted := 3 } }

/-! ## Single commands -/

theorem test_present_admits_at_once :
    answers (.present 77 2 1) (ready 4) (fun t => t.lane.state == .opening && t.lane.remaining == 1 &&
      t.account.charged == 1 && t.barrier.output == .driveOpen && t.events.records.length == 1) = true := by
  decide +kernel

theorem test_present_is_announced :
    answers (.present 77 0 1) (ready 4) (fun t => t.account.reserved == 1 && t.lane.state == .idle &&
      t.link.queue.map TxEntry.kind == [.ticket]) = true := by
  decide +kernel

theorem test_present_without_places_claims :
    answers (.present 77 0 1) (ready 0) (fun t => t.account.claim == .demand && t.account.wanted == 4) = true := by
  decide +kernel

theorem test_claim_is_granted :
    answers (.claimFrame 3 5 [0, 9]) (windowAt .opened) (fun t => (t.vessel.row 3).granted == 7 &&
      t.vessel.remainder == 0 && t.vessel.fullRaised) = true := by
  decide +kernel

theorem test_offer_opens_the_view :
    answers (.offerFrame 0 5 [0, 50]) gate (fun t => t.view.state == .opened && t.view.number == 5) = true := by
  decide +kernel

theorem test_plate_turns_the_flap_back :
    answers (.rundownCrossing 400)
      { moving gate .closing .driveClose .closedEnd with
        converter :=
          { turn := some .a
            plateA := { Plate.afterReset with phase := .rundown, candidate := some .occupied, candidateRun := 1 }
            plateB := { Plate.afterReset with phase := .waiting } } }
      (fun t => t.barrier.output == .brake && t.barrier.state == .opening) = true := by
  decide +kernel

theorem test_switch_conflict_halts :
    answers (.endSwitchActive .openEnd) (ready 4) (fun t => t.barrier.state == .halted && t.lane.state == .fault) =
      true := by
  decide +kernel

theorem test_identify_from_reset :
    answers .identify State.reset (fun t => t.port.reply == [1, 8, 6, 86, 1, 64, 1, 0, 0, 0, 89]) = true := by
  decide +kernel

/-! ## The hypotheses of the statements are met -/

/-- A byte is in a message of the port. -/
def message (m : List Byte) : List Byte := m ++ [checkByte m]

/-- The port receiving, with these bytes stored. -/
def receiving (s : State) (m : List Byte) : State :=
  { s with port := { s.port with state := .receive, hsel := true, request := m } }

/-- A list with the key 77. -/
def listing (s : State) : State :=
  { s with list := { s.list with entries := [⟨77, 0, 1, 4, 5, 9, .peer⟩] } }

/-- A list of 160 entries, the keys 1000 to 1159. -/
def fullList (s : State) : State :=
  { s with
    list :=
      { s.list with entries := (List.range 160).map fun i => ⟨BitVec.ofNat 32 (1000 + i), 0, 1, 4, 5, 9, .peer⟩ } }

theorem test_met_step_and_invariants : ∃ s t : State,
    s.pending = [.start] ∧ step s = .next t ∧ s.barrierSafe ∧ s.barrier.sound ∧ s.converter.sound ∧ s.clearSettled ∧
      s.events.sound ∧ s.link.queueSound ∧ s.list.sound ∧ s.vessel.placesAddUp ∧ s.partiesFit ∧ s.egressSound ∧
      s.accountSound ∧ s.timely := by
  refine ⟨State.reset.withFront .start, _, rfl, rfl, ?_, ?_, ?_, ?_, ?_, ?_, ?_, ?_, ?_, ?_, ?_, ?_⟩
  · unfold State.barrierSafe; decide
  · exact ⟨show _ = _ from rfl, by decide, by decide, by decide, by decide⟩
  · refine ⟨?_, ?_, ?_⟩
    · exact ⟨by decide, by decide, fun _ h => (nomatch h), by decide⟩
    · exact ⟨by decide, by decide, fun _ h => (nomatch h), by decide⟩
    · exact ⟨rfl, rfl⟩
  · intro _; rfl
  · exact ⟨by decide, fun _ _ h => nomatch h⟩
  · exact ⟨fun _ h => (List.not_mem_nil h).elim, by decide, by decide, by decide, fun _ h => nomatch h⟩
  · unfold RecentList.sound; decide
  · exact Or.inl rfl
  · exact ⟨by unfold ConfigRecord.inRange; decide +kernel, by decide, fun _ h => nomatch h⟩
  · unfold State.egressSound; decide
  · exact fun h => absurd h (by decide)
  · exact ⟨fun h => absurd h (by decide), by decide⟩

theorem test_met_invariants_at_work :
    (windowAt .opened).vessel.placesAddUp ∧ (evacuating gate).egressSound ∧ (fullList gate).list.sound := by
  refine ⟨Or.inr ⟨by decide +kernel, by decide +kernel⟩, ?_, ?_⟩
  · unfold State.egressSound; decide
  · unfold RecentList.sound; decide +kernel

/-- Gate 3 with a presentation in AWAIT_LINK whose TICKET is SENDING, 4 places granted and 1 charged and paid. -/
def announcing : State :=
  let s := queued (presenting (ready 4) .awaitLink) (entry .ticket true 0)
  { s with account := { s.account with charged := 1, reserved := 2 }, lane := { s.lane with paid := 1 } }

theorem test_met_account : ∃ t : State, (announcing.withFront .ownFrameComplete).accountSound ∧
    (announcing.withFront .ownFrameComplete).link.queueSound ∧ (announcing.withFront .ownFrameComplete).timely ∧
      step (announcing.withFront .ownFrameComplete) = .next t ∧ t.account.charged = 3 ∧
      announcing.presence.number ≠ 0 := by
  refine ⟨_, fun _ => ⟨by unfold State.inBalance; decide, by decide, fun _ => ⟨_, rfl, rfl⟩, ?_, ?_, ?_, ?_⟩, ?_, ?_, rfl,
    by decide +kernel, by decide⟩
  · exact fun h => absurd rfl h
  · exact fun h => nomatch h
  · exact fun h => nomatch h
  · decide
  · refine ⟨?_, by decide, by decide, by decide, fun _ h => nomatch h⟩
    intro e he
    rw [show e = entry .ticket true 0 from List.mem_singleton.mp he]
    unfold TxEntry.sound; decide
  · refine ⟨fun _ c h => ?_, fun _ => rfl⟩
    rw [← Option.some.inj (Option.mem_def.mp h)]
    decide

theorem test_met_idle_queue : gate.pending = [] := rfl

theorem test_met_driveClose : (moving gate .closing .driveClose .closedEnd).barrierSafe ∧
    (moving gate .closing .driveClose .closedEnd).barrier.output = .driveClose := by
  unfold State.barrierSafe; decide

theorem test_met_frame : (testFrame 3).body.length ≤ 24 ∧ (zeros 24).length ≤ 24 ∧ (zeros 0).length ≤ 24 := by decide

theorem test_met_bodies : (ready 65535).account.granted ≤ 65535 ∧ (ready 65535).account.returned ≤ 65535 ∧
    (ready 65535).lane.paid ≤ 65535 ∧ (ready 65535).lane.unpaid ≤ 65535 ∧ (ready 65535).lane.excess ≤ 65535 ∧
    (ready 65535).held ≤ 65535 ∧ vessel.vessel.state = .none ∧ vessel.vessel.onboard ≤ 65535 ∧
    (windowAt .closing).vessel.state ≠ .none ∧ (windowAt .closing).vessel.offer ≤ 65535 ∧
    (windowAt .closing).vessel.remainder ≤ 65535 ∧ (windowAt .closing).vessel.onboard ≤ 65535 ∧
    (let pairs : List (Nat × Nat) := [(1, 0), (15, 65535), (0, 9), (7, 3)]
     pairs.length ≤ 4 ∧ ∀ p ∈ pairs, p.1 ≤ 15 ∧ p.2 ≤ 65535) ∧
    (let t : TicketContents := ⟨5, 77, 255, 255⟩
     t.cls ≤ 255 ∧ t.party ≤ 255) := by decide

theorem test_met_events :
    gate.events.records.length < 32 ∧
      32 ≤ (List.replicate 32 (⟨.admitted, false, 0, 0, 0, 0, 0⟩ : EventRecord)).length := by decide

theorem test_met_queue_operations :
    (∀ e ∈ gate.link.queue, e.kind ≠ .status) ∧
      (queued gate (entry .status true 0)).link.queue = [] ++ entry .status true 0 :: [] ∧
      (queued gate (entry .status false 0)).link.queue = [] ++ entry .status false 0 :: [] ∧
      (∀ x ∈ (queued gate (entry .egressEnd false 0)).link.queue, x.kind.isEvacuation = true → x.sending = false) ∧
      (∀ x ∈ (queued gate (entry .egressEnd false 0)).link.queue, x.kind ≠ .egress) ∧
      (∃ x ∈ (queued gate (entry .egress true 0)).link.queue, x.kind.isEvacuation = true ∧ x.sending = true) ∧
      (∃ x ∈ (queued gate (entry .egress false 0)).link.queue, x.kind = .egress) ∧
      FrameKind.status.isEvacuation = false ∧ FrameKind.egress.isEvacuation = true ∧
      (∀ e ∈ gate.link.queue, e.kind ≠ .ticket) ∧
      (∃ e ∈ (queued gate (entry .ticket true 0)).link.queue, e.kind = .ticket) ∧
      (∃ e ∈ (queued gate (entry .ticket false 0)).link.queue, e.kind = .ticket) := by decide

/-- Every barrier state is met, with and without the plate condition. -/
theorem test_met_barrier_commands : ∀ b : BarrierState,
    (barrierAt gate b).barrier.state = b ∧ (barrierAt gate b).plateCondition = true ∧
      (occupied (barrierAt gate b)).barrier.state = b ∧ (occupied (barrierAt gate b)).plateCondition = false := by
  intro b; cases b <;> decide

theorem test_met_reply : (portAt gate .reply).port.state = .reply ∧ (portAt gate .reply).port.resetPending = false ∧
    ({ (portAt gate .reply).port with hsel := false } : HostPort).hsel = false := by decide

theorem test_met_request_bytes :
    gate.port.hsel = false ∧ (receiving gate []).port.hsel = true ∧ (receiving gate []).port.state = .receive ∧
      (portAt gate .idle).port.hsel = true ∧ (portAt gate .idle).port.state = .idle ∧
      ([] ++ [4] : List Byte).length < 2 ∧
      (let m : List Byte := [7, 60]
       natAt m 1 ≤ 60 ∧ m.length < natAt m 1 + 3) ∧
      (portAt gate .work).port.hsel = true ∧ (portAt gate .work).port.state = .work := by decide

theorem test_met_complete_request :
    (receiving gate [14, 6, 0, 0, 0, 77, 0]).port.hsel = true ∧
      (let m : List Byte := message [14, 6, 0, 0, 0, 77, 0, 1]
       2 ≤ m.length ∧ natAt m 1 ≤ 60 ∧ natAt m 1 + 3 ≤ m.length ∧ m.foldl (· + ·) 0 = 0 ∧
         (∃ entry ∈ requestTable, entry.1 = natAt m 0 ∧ entry.2.1 = natAt m 1 ∧ gate.hasRole entry.2.2 = true) ∧
         requestOf m = some (.present 77 0 1)) ∧
      (let m : List Byte := message [1, 0]
       2 ≤ m.length ∧ natAt m 1 + 3 ≤ m.length ∧ m.foldl (· + ·) 0 = 0 ∧ requestOf m = some .identify) := by decide

theorem test_met_failing_messages :
    gate.port.state = .idle ∧
      (let m : List Byte := [1, 61]
       2 ≤ m.length ∧ 60 < natAt m 1) ∧
      (let m : List Byte := [1, 0, 0]
       2 ≤ m.length ∧ natAt m 1 ≤ 60 ∧ m.length = natAt m 1 + 3 ∧ m.foldl (· + ·) 0 ≠ 0) ∧
      (let m : List Byte := message [22, 0]
       m.length = natAt m 1 + 3 ∧ m.foldl (· + ·) 0 = 0 ∧ ∀ entry ∈ requestTable, entry.1 ≠ natAt m 0) ∧
      (let m : List Byte := message [16, 1, 9]
       m.length = natAt m 1 + 3 ∧ m.foldl (· + ·) 0 = 0 ∧
         ∃ entry ∈ requestTable, entry.1 = natAt m 0 ∧ entry.2.1 ≠ natAt m 1) ∧
      (let m : List Byte := message [18, 0]
       m.length = natAt m 1 + 3 ∧ m.foldl (· + ·) 0 = 0 ∧
         ∃ entry ∈ requestTable, entry.1 = natAt m 0 ∧ entry.2.1 = natAt m 1 ∧ gate.hasRole entry.2.2 = false) ∧
      (receiving gate [1, 0]).port.hsel = true ∧ (receiving gate [1, 0]).port.state = .receive ∧
      ([1, 0, 0] : List Byte) = (receiving gate [1, 0]).port.request ++ [0] ∧
      ([1, 61] : List Byte) = (receiving gate [1]).port.request ++ [61] := by
  decide

theorem test_met_held_replies : (zeros 60).length ≤ 60 ∧ (portAt gate .work).port.state = .work ∧
    (portAt gate .reply).clearSettled ∧ requestOf [1, 0, 255] = some .identify := by
  refine ⟨by decide, rfl, fun _ => rfl, by decide⟩

theorem test_met_reset_request :
    gate.canTake = true ∧ (portAt gate .work).port.reply ≠ [] ∧
      ({ (portAt gate .reply).port with resetPending := true } : HostPort).resetPending = true ∧
      (portAt gate .reply).port.offered = true ∧
      (portAt gate .reply).port.reply.length ≤ (portAt gate .reply).port.shifted := by decide

/-- Every station state is met while the port can take a request. -/
theorem test_met_identify : ∀ st : StationState,
    ({ gate with presence := { gate.presence with state := st } } : State).canTake = true := by
  intro st; cases st <;> decide

/-- A payload with this first byte, the rest at the default values. -/
def payload (resolution : Byte) : List Byte :=
  [resolution, 2, 88, 6, 164, 120, 4, 1, 8, 1, 1, 1, 0, 100, 20, 1, 20, 4, 0, 1, 0, 1, 0, 1, 0, 1, 0, 1, 0, 1]

theorem test_met_configure :
    gate.canTake = true ∧ (payload 3).length = 30 ∧ ({ gate with locked := true } : State).locked = true ∧
      gate.locked = false ∧ (∀ j < 1, fieldInRange (payload 4) j) ∧ ¬ fieldInRange (payload 4) 1 ∧
      ∀ k, k ≤ 27 → fieldInRange (payload 3) k := by
  refine ⟨by decide, by decide, rfl, rfl, ?_, ?_, ?_⟩
  · intro j hj
    interval_cases j
    trivial
  · show ¬ (natAt (payload 4) 0 ≤ 3)
    decide
  · intro k hk
    interval_cases k <;> first | trivial | (show _ ≤ _; decide) | (show _ < _; decide)

theorem test_met_start : State.reset.canTake = true ∧ State.reset.presence.state = .setup ∧
    State.reset.lane.state ≠ .fault ∧ gate.presence.state ≠ .setup := by decide

theorem test_met_lookup :
    (listing gate).list.entries = [] ++ ⟨77, 0, 1, 4, 5, 9, .peer⟩ :: [] ∧
      ∀ x ∈ gate.list.entries, x.key ≠ 77 := by decide

theorem test_met_query : gate.canTake = true ∧ gate.presence.number ≠ 0 ∧ vessel.presence.number = 0 ∧
    6 < (7 : Byte).toNat ∧ 6 < (255 : Byte).toNat := by decide

theorem test_met_read_event :
    gate.events.records = [] ∧ (gate.raise .isolated).events.records = [⟨.isolated, false, 0, 0, 0, 0, 0⟩] ∧
      128 ≤ (128 : Byte).toNat ∧ (127 : Byte).toNat < 128 := by decide

/-! ### Requests of the gate -/

theorem test_met_present_checks :
    vessel.presence.number = 0 ∧
      (State.afterReset 3 false).presence.state = .setup ∧ (evacuating gate).egress.state = .egress ∧
      (laneAt gate .held).lane.state = .held ∧ (laneAt gate .opened).lane.state ≠ .idle ∧
      (gate.classRecord 2).maxParty < (2 : Byte).toNat ∧ gate.view.state ≠ .opened ∧
      ∃ e ∈ (listing (ready 4)).list.entries, e.key = 77 := by decide +kernel

theorem test_met_present_accepted :
    let s := ready 4
    s.canTake = true ∧ s.presence.number ≠ 0 ∧ s.presence.state = .active ∧ s.egress.state = .normal ∧
      s.lane.state = .idle ∧ s.lane.holdPending = false ∧ s.admission.record = none ∧
      1 ≤ (s.classRecord 2).maxParty ∧ s.view.state = .opened ∧ (∀ e ∈ s.list.entries, e.key ≠ 77) ∧
      s.admission.counter ≤ 255 ∧ 1 ≤ s.held ∧ (s.classRecord 2).holdTime = 0 ∧ s.barrier.state = .closed ∧
      s.barrier.openSwitch = false ∧ (s.classRecord 0).holdTime ≠ 0 ∧ (∀ e ∈ s.link.queue, e.kind ≠ .ticket) ∧
      (ready 0).held < 1 := by decide +kernel

theorem test_met_cancel :
    gate.canTake = true ∧ gate.presence.number ≠ 0 ∧
      (presenting gate .awaitLink).admission.record = some (waiting .awaitLink) ∧
      (waiting .awaitLink).number = (1 : Byte).toNat ∧ (waiting .awaitLink).state = .awaitLink ∧
      (∃ e ∈ (queued (presenting gate .awaitLink) (entry .ticket true 0)).link.queue,
        e.kind = .ticket ∧ e.sending = true) ∧
      (waiting .awaitPlaces).state = .awaitPlaces ∧
      (∀ e ∈ (queued gate (entry .ticket false 0)).link.queue, e.kind = .ticket → e.sending = false) ∧
      (∀ p, gate.admission.record = some p → p.number ≠ (1 : Byte).toNat) ∧
      (laneAt gate .opened).lane.state ≠ .idle ∧ gate.lane.holdPending = false ∧ gate.isGate = true ∧
      ({ gate.lane with holdPending := true } : Lane).holdPending = true := by
  refine ⟨by decide, by decide, rfl, by decide, rfl, by decide, rfl, by decide, ?_, by decide, rfl, by decide, rfl⟩
  exact fun _ h => nomatch h

theorem test_met_hold_and_release :
    gate.canTake = true ∧ vessel.canTake = true ∧ vessel.presence.number = 0 ∧ gate.presence.number ≠ 0 ∧
      (laneAt gate .held).lane.state = .held ∧ gate.lane.state = .idle ∧ gate.lane.holdPending = false ∧
      gate.admission.record = none ∧ (presenting gate .awaitLink).admission.record ≠ none ∧
      ({ gate.lane with holdPending := true } : Lane).holdPending = true ∧
      ({ gate.lane with holdPending := true } : Lane).state ≠ .held := by decide

theorem test_met_clear_fault :
    (laneAt gate .fault).canTake = true ∧ (laneAt gate .fault).lane.state = .fault ∧
      gate.barrier.egressMark = false ∧ gate.lane.recovery = false ∧
      ({ gate.lane with recovery := true } : Lane).recovery = true ∧ (evacuating gate).lane.state = .egress ∧
      ({ gate.lane with faultCause := some .plateA } : Lane).faultCause ≠ none ∧ gate.lane.state ≠ .fault ∧
      (evacuating gate).lane.faultCause = none ∧
      (laneAt (State.afterReset 0 false) .fault).presence.state = .setup ∧
      (laneAt (State.afterReset 0 false) .fault).lane.mode = .flow := by decide

/-- A vessel lane in FLOW whose fault is cleared in SETUP drives nothing (R120). -/
theorem test_clear_fault_in_setup :
    answers .clearFault (laneAt (State.afterReset 0 false) .fault)
      (fun t => t.lane.recovery && t.barrier == Barrier.afterReset && t.lane.clearTimer == .stopped) = true := by
  decide +kernel

theorem test_met_lane_restart :
    (State.afterReset 3 false).presence.state = .setup ∧ (evacuating gate).lane.state = .egress ∧
      gate.presence.state ≠ .setup ∧ gate.lane.state ≠ .egress ∧ (laneAt gate .held).lane.state = .held ∧
      gate.lane.state ≠ .held ∧ gate.lane.holdPending = false ∧ gate.admission.record = none ∧
      ({ gate.lane with holdPending := true } : Lane).holdPending = true ∧ vessel.lane.mode = .flow ∧
      ({ vessel.lane with mode := .alight } : Lane).mode = .alight ∧ vessel.lane.state ≠ .held ∧
      ({ gate.lane with remaining := 2 } : Lane).remaining ≠ 0 ∧ gate.presence.number ≠ 0 ∧
      (presenting gate .awaitPlaces).admission.record ≠ none := by decide

/-! ### Operations shared at the admission unit and the place account -/

theorem test_met_refunds_and_stops :
    gate.view.state = .none ∧ (ready 4).view.state ≠ .none ∧ (ready 4).account.reserved < 4 ∧
      (ready 4).account.granted - (ready 4).account.returned - (ready 4).account.charged = 4 ∧
      gate.account.claim = .none ∧ ({ gate.account with claim := .background } : Account).claim = .background ∧
      ({ gate.account with claim := .demand } : Account).claim = .demand ∧ gate.lane.remaining = 0 ∧
      ({ gate.lane with remaining := 8 } : Lane).remaining ≠ 0 ∧ vessel.presence.number = 0 ∧
      gate.presence.number ≠ 0 ∧ gate.admission.record = none ∧
      announcing.admission.record = some (waiting .awaitLink) ∧
      (∃ e ∈ announcing.link.queue, e.kind = .ticket ∧ e.sending = true) ∧
      ¬(∃ e ∈ gate.link.queue, e.kind = .ticket ∧ e.sending = true) ∧
      (presenting gate .awaitPlaces).admission.record = some (waiting .awaitPlaces) ∧
      (∀ p, gate.admission.record = some p → p.state = .awaitLink) ∧ (waiting .awaitPlaces).party ≤ (ready 4).held ∧
      (ready 0).held < (waiting .awaitPlaces).party ∧ (gate.classRecord 2).holdTime = 0 ∧
      (gate.classRecord 0).holdTime ≠ 0 ∧ gate.lane.state = .idle ∧ (laneAt gate .fault).lane.state ≠ .idle := by
  refine ⟨rfl, by decide, by decide, by decide, rfl, rfl, rfl, rfl, by decide, rfl, by decide, rfl, rfl, by decide,
    by decide, rfl, fun _ h => (nomatch h), by decide, by decide, by decide +kernel, by decide +kernel, rfl, by decide⟩

/-- A ticket admitted in FAULT gives the barrier no command; in IDLE with the barrier open the lane is open at once (R121, R163). -/
theorem test_admission_by_lane_and_barrier :
    ((laneAt (ready 4) .fault).admitParty 7 2 5).barrier = (ready 4).barrier ∧
      ((laneAt (ready 4) .fault).admitParty 7 2 5).lane.remaining = 2 ∧
      ((barrierAt (ready 4) .opened).admitParty 7 2 5).lane.state = .opened := by decide

/-! ### Requests of the vessel station -/

theorem test_met_window_requests :
    gate.canTake = true ∧ gate.presence.number ≠ 0 ∧ vessel.canTake = true ∧ vessel.presence.number = 0 ∧
      vessel.vessel.state = .none ∧ vessel.presence.state = .active ∧ vessel.egress.state = .normal ∧
      vessel.vessel.onboard < vessel.config.capacity ∧
      vessel.config.capacity ≤ ({ vessel.vessel with onboard := 100 } : Vessel).onboard ∧
      (windowAt .opened).vessel.state = .opened ∧ (windowAt .closing).vessel.state ≠ .opened ∧
      (windowAt .closing).vessel.state ≠ .none ∧ (State.afterReset 0 false).presence.state ≠ .active ∧
      (evacuating vessel).egress.state = .egress := by decide

/-- The open window with gate 1 granted places. -/
def granted (isFinal : Bool) : State :=
  { windowAt .opened with
    vessel := (windowAt .opened).vessel.setRow 1 { GateRow.afterReset with granted := 3, final := isFinal } }

theorem test_met_closing :
    (granted false).vessel.state = .opened ∧
      (∃ g ∈ (granted false).vessel.gates.toList, 0 < g.granted ∧ g.final = false) ∧
      (∀ g ∈ (granted true).vessel.gates.toList, 0 < g.granted → g.final = true) ∧
      (windowAt .closing).vessel.state = .closing ∧
      ({ vessel.vessel with tallyTimer := .running 0 } : Vessel).tallyTimer.isRunning = true := by decide +kernel

theorem test_met_lane_mode :
    1 < (2 : Byte).toNat ∧ vessel.lane.mode = .flow ∧ ({ vessel.lane with mode := .alight } : Lane).mode = .alight ∧
      (State.afterReset 0 false).presence.state = .setup ∧ vessel.presence.state ≠ .setup ∧
      (let l : Lane := { vessel.lane with state := .fault, recovery := true, mode := .alight }
       l.state = .fault ∧ l.recovery = true ∧ l.mode = .alight) := by decide

/-! ### Egress -/

theorem test_met_egress_entered :
    gate.barrierSafe ∧ gate.barrier.sound ∧ gate.egress.input = false ∧ gate.egress.state = .normal ∧
      gate.presence.state ≠ .setup ∧ (State.afterReset 3 false).presence.state = .setup ∧
      (evacuating gate).barrierSafe ∧ (evacuating gate).barrier.sound ∧ (evacuating gate).egress.state = .egress ∧
      ({ (evacuating gate).egress with origin := .peer } : Egress).origin = .peer ∧ gate.hears 4 ∧
      (evacuating gate).hears 0 ∧
      formatCheck .status 4 5 (0 :: 1 :: zeros 12) = true ∧ statusEgressFlag (0 :: 1 :: zeros 12) = true ∧
      formatCheck .status 0 5 [1, 1, 0, 50, 0, 50, 0, 0, 0] = true ∧
      statusEgressFlag [1, 1, 0, 50, 0, 50, 0, 0, 0] = true ∧ vessel.presence.number = 0 ∧
      gate.egress.endMark = false ∧ ({ gate.egress with endMark := true } : Egress).endMark = true ∧
      announcing.barrierSafe ∧ announcing.barrier.sound ∧
      (∃ e ∈ announcing.link.queue, e.kind = .ticket ∧ e.sending = true) ∧ announcing.view.state ≠ .none ∧
      announcing.vessel.state ≠ .opened ∧ announcing.presence.state = .active := by
  refine ⟨?_, ?_, rfl, rfl, by decide, rfl, ?_, ?_, rfl, rfl, ?_, ?_, by decide, by decide, by decide, by decide, rfl,
    rfl, rfl, ?_, ?_, by decide, by decide, by decide, rfl⟩
  · unfold State.barrierSafe; decide
  · exact ⟨show _ = _ from rfl, by decide, by decide, by decide, by decide⟩
  · unfold State.barrierSafe; decide
  · exact ⟨show _ = _ from rfl, by decide, by decide, by decide, by decide⟩
  · unfold State.hears; decide
  · unfold State.hears; decide
  · unfold State.barrierSafe; decide
  · exact ⟨show _ = _ from rfl, by decide, by decide, by decide, by decide⟩

/-- Egress takes a SENDING TICKET off the line, refunds, and returns every free credit. -/
theorem test_egress_empties_the_gate :
    answers .egressInputActive announcing (fun t => t.admission.record == none && t.account.returned == 3 &&
      t.link.queue.map TxEntry.kind == [.egress, .status] && t.lane.state == .egress) = true := by
  decide +kernel

theorem test_met_egress_left :
    (evacuating gate).canTake = true ∧ (evacuating gate).egress.input = false ∧
      (evacuating gate).egress.state = .egress ∧ (evacuating gate).lane.faultCause = none ∧
      ({ (evacuating gate).lane with faultCause := some .stall } : Lane).faultCause ≠ none ∧
      ({ gate.egress with input := true } : Egress).input = true ∧ gate.egress.state = .normal := by decide

/-! ### The link controller -/

theorem test_met_selftest :
    (State.afterReset 3 false).canTake = true ∧ (State.afterReset 3 false).presence.state = .setup ∧
      gate.presence.state ≠ .setup ∧ ({ gate.link with loopback := true } : Link).loopback = true ∧
      deframe (.hunting none) (flagBits.take 320) = none ∧
      (∃ content, deframe (.hunting none) ((flagBits ++ [false, true, false, true, false, false, false, true] ++ flagBits).take 320) =
          some content ∧ (contentBytes content).length < 5) ∧
      (∃ content, deframe (.hunting none) ((testFrame 3).lineBits.take 320) = some content ∧
        content.length % 8 = 0 ∧ (contentBytes content).length = 21 ∧ natAt (contentBytes content) 2 = 16) := by
  refine ⟨by decide, rfl, by decide, rfl, by decide, ⟨_, rfl, by decide⟩, ⟨bytesBits (testFrame 3).content, ?_⟩⟩
  decide +kernel

theorem test_met_starts : ∀ k : FrameKind,
    let s := queued { gate with link := { gate.link with lineIdle := true } } (entry k false 0)
    s.link.queue = entry k false 0 :: [] ∧ (entry k false 0).sending = false ∧ (entry k false 0).kind = k ∧
      s.presence.state = .active ∧ s.link.loopback = false ∧ s.link.lineIdle = true ∧ s.link.idleTimer ≤ 3 ∧
      3 % 16 = (s.presence.number - s.link.lastSender - 1).toNat ∧ (k = .ticket → (entry k false 0).ticket.isSome) ∧
      isGoodContent [true] = false ∧ s.link.hunt = .hunt := by
  intro k; cases k <;> decide

theorem test_met_transmissions : ∀ k : FrameKind,
    let s := queued gate (entry k true 2)
    s.link.queue = entry k true 2 :: [] ∧ (entry k true 2).sending = true ∧ (entry k true 2).kind = k ∧
      s.link.txFrame = some ⟨3, k, 5, [0, 2, 3, 0, 9]⟩ ∧ s.link.deferred = none ∧ 2 ≤ (entry k true 2).attempts ∧
      (entry k true 1).attempts < 2 ∧ (entry k true 2).requeue = false ∧ gate.account.claim = .none ∧
      statusViewFlag [0, 2, 3, 0, 9] = true ∧ gate.account.announced = false ∧
      ((presenting gate .awaitLink).admission.record.bind Presentation.stopCause) = none ∧
      (some { waiting .awaitLink with stopCause := some .laneRestart } : Option Presentation).bind
        Presentation.stopCause = some .laneRestart ∧
      ({ s.link with deferred := some .egressEnd } : Link).deferred = some .egressEnd ∧
      ({ entry k true 2 with requeue := true } : TxEntry).requeue = true ∧
      (∀ x ∈ [entry .status false 0, entry .claim false 1], x.sending = false ∧ x.kind.isEvacuation = false) := by
  intro k; cases k <;> decide

/-! ### Frames heard -/

theorem test_met_good_frames :
    isUnknownKind 4 0 0 [] = true ∧ isUnknownKind 4 15 0 [] = true ∧ gate.link.loopback = false ∧
      (State.afterReset 3 false).presence.state = .setup ∧ gate.hears 4 := by
  refine ⟨by decide, by decide, rfl, rfl, ?_⟩
  unfold State.hears; decide

/-- The gate with its view in a state, on window 5. -/
def viewing (v : ViewState) : State := { ready 4 with view := { (ready 4).view with state := v } }

theorem test_met_view_frames :
    (∀ v : ViewState, (viewing v).hears 0 ∧ (viewing v).view.state = v ∧ (viewing v).view.number = 5 ∧
      (viewing v).presence.number ≠ 0) ∧
      formatCheck .offer 0 5 [0, 50] = true ∧ formatCheck .offer 0 6 [3, 231] = true ∧
      formatCheck .close 0 5 [] = true ∧
      formatCheck .status 0 5 [1, 0, 0, 50, 0, 50, 0, 0, 0] = true ∧
      formatCheck .status 0 0 [0, 0, 0, 0, 0, 0, 0, 0, 0] = true ∧
      formatCheck .status 0 5 [2, 0, 0, 50, 0, 50, 0, 0, 1] = true ∧
      statusEgressFlag [2, 0, 0, 50, 0, 50, 0, 0, 1] = false ∧
      (presenting (viewing .opened) .awaitPlaces).admission.record = some (waiting .awaitPlaces) := by
  refine ⟨fun v => ?_, by decide, by decide, by decide, by decide, by decide, by decide, by decide, rfl⟩
  cases v <;> exact ⟨by unfold State.hears; decide, rfl, rfl, by decide⟩

theorem test_met_claims_and_grants :
    (windowAt .opened).hears 3 ∧ (windowAt .opened).presence.number = 0 ∧ formatCheck .claim 3 5 [0, 9] = true ∧
      (windowAt .opened).vessel.state = .opened ∧ (windowAt .opened).vessel.number = (5 : Byte).toNat ∧
      ((windowAt .opened).vessel.row 3).lost = false ∧ (windowAt .closing).vessel.state ≠ .opened ∧
      (windowAt .opened).vessel.number ≠ (6 : Byte).toNat ∧
      ((windowAt .opened).vessel.setRow 3 { GateRow.afterReset with lost := true }).row 3 =
        { GateRow.afterReset with lost := true } ∧
      (viewing .opened).hears 0 ∧ formatCheck .grant 0 5 [0, 0, 3, 0, 9] = true ∧
      (viewing .none).view.state = .none ∧ (viewing .opened).view.number = (5 : Byte).toNat ∧
      (viewing .opened).view.number ≠ (6 : Byte).toNat ∧ (∀ p ∈ grantPairs [0, 0, 4, 0, 9], p.1 ≠ (3 : Station).toNat) ∧
      grantedTo 3 [0, 0, 3, 0, 9] = [9] ∧ ({ vessel.vessel with lastServed := 15 } : Vessel).lastServed ≤ 15 := by
  refine ⟨?_, rfl, by decide, rfl, rfl, by decide, by decide, by decide, by decide +kernel, ?_, by decide, rfl, rfl,
    by decide, by decide, by decide, by decide⟩
  · unfold State.hears; decide
  · unfold State.hears; decide

/-- A recorded window 5 at the vessel station. -/
def recorded : State :=
  { windowAt .none with
    vessel :=
      { (windowAt .none).vessel with record := some ⟨5, Vector.replicate 15 ⟨0, 0, 0, false⟩⟩ } }

theorem test_met_gate_reports :
    (windowAt .opened).hears 3 ∧ (windowAt .opened).presence.number = 0 ∧
      formatCheck .status 3 5 (0 :: zeros 13) = true ∧ statusEgressFlag (0 :: zeros 13) = false ∧
      formatCheck .tally 3 5 (zeros 10) = true ∧ (windowAt .opened).vessel.state ≠ .none ∧
      (windowAt .closing).vessel.state ≠ .none ∧ (windowAt .closing).vessel.number = (5 : Byte).toNat ∧
      (windowAt .closing).vessel.number ≠ (6 : Byte).toNat ∧ recorded.hears 3 ∧ recorded.vessel.state = .none ∧
      recorded.vessel.record = some ⟨5, Vector.replicate 15 ⟨0, 0, 0, false⟩⟩ ∧ vessel.vessel.record = none ∧
      (5 : Nat) = (5 : Byte).toNat ∧ (5 : Nat) ≠ (6 : Byte).toNat := by
  refine ⟨?_, rfl, by decide, by decide, by decide, by decide, by decide, rfl, by decide, ?_, rfl, rfl, rfl, rfl,
    by decide⟩
  · unfold State.hears; decide
  · unfold State.hears; decide

theorem test_met_tickets :
    gate.hears 4 ∧ formatCheck .ticket 4 5 [0, 0, 0, 77, 0, 2] = true ∧
      (listing gate).list.entries = [] ++ ⟨77, 0, 1, 4, 5, 9, .peer⟩ :: [] ∧ (∀ e ∈ gate.list.entries, e.key ≠ 77) ∧
      (gate.classRecord 2).holdTime = 0 ∧ (gate.classRecord 0).holdTime ≠ 0 ∧ gate.list.entries.length < 160 ∧
      160 ≤ (fullList gate).list.entries.length ∧ (∀ e ∈ (fullList gate).list.entries, e.key ≠ 77) ∧
      gate.list.secondTimer.isRunning = true := by
  refine ⟨?_, by decide, rfl, by decide, by decide +kernel, by decide +kernel, by decide, by decide +kernel,
    by decide +kernel, rfl⟩
  unfold State.hears; decide

/-! ### Timers -/

theorem test_met_presence_timers :
    let listening : Presence := { Presence.afterReset 3 with state := .listen, listenTimer := .running 0 }
    let active : Presence :=
      { gate.presence with isolationTimer := .running 0, rollTimer := .running 0 }
    let peered := gate.presence.setPeer 0 { Peer.afterReset with silence := .running 0 }
    listening.listenTimer.isRunning = true ∧ listening.state = .listen ∧ active.isolationTimer.isRunning = true ∧
      active.state = .active ∧ active.rollTimer.isRunning = true ∧ (peered.peer 0).silence.isRunning = true ∧
      gate.presence.number ≠ 0 ∧ (viewing .opened).view.state = .opened ∧ (viewing .closed).view.state ≠ .opened ∧
      (windowAt .opened).vessel.state = .opened ∧ gate.vessel.state ≠ .opened := by decide

theorem test_met_account_timers :
    let v : WindowView := { (viewing .orphaned).view with orphanTimer := .running 0 }
    let a : Account :=
      { (ready 4).account with kept := some 2, waitTimer := .running 0, repeatTimer := .running 0, claim := .demand }
    v.orphanTimer.isRunning = true ∧ v.state = .orphaned ∧ a.kept = some 2 ∧ a.announced = true ∧
      (∃ p, (presenting gate .awaitPlaces).admission.record = some p ∧ p.state = .awaitPlaces) ∧
      a.repeatTimer.isRunning = true ∧ a.claim ≠ .none ∧ a.waitTimer.isRunning = true ∧ a.claim = .demand ∧
      ({ a with claim := .background } : Account).claim = .background ∧ (waiting .awaitPlaces).party ≤ (ready 4).held ∧
      (ready 0).held < (waiting .awaitPlaces).party ∧ (gate.classRecord 2).holdTime = 0 ∧
      (gate.classRecord 0).holdTime ≠ 0 ∧ (ready 0).backgroundDue = true ∧ (ready 4).backgroundDue = false := by
  refine ⟨rfl, rfl, rfl, rfl, ⟨_, rfl, rfl⟩, rfl, by decide, rfl, rfl, rfl, by decide, by decide, by decide +kernel,
    by decide +kernel, by decide, by decide⟩

theorem test_met_lane_timers :
    let l : Lane :=
      { gate.lane with
        passageWait := .running 0, clearTimer := .running 0, loiterA := .running 0, loiterB := .running 0,
        remaining := 8, settleMark := false }
    l.passageWait.isRunning = true ∧ l.remaining ≠ 0 ∧ gate.presence.number ≠ 0 ∧ l.clearTimer.isRunning = true ∧
      ({ l with state := .opened } : Lane).state = .opened ∧ l.state ≠ .opened ∧ l.tracker.armed = false ∧
      gate.presence.state ≠ .setup ∧ l.settleMark = false ∧
      (∀ p, (gate.converter.plate p).cls = .empty ∧ (gate.converter.plate p).fault = false) ∧
      l.loiterA.isRunning = true ∧ l.loiterB.isRunning = true := by
  refine ⟨rfl, by decide, by decide, rfl, rfl, by decide, rfl, by decide, rfl, ?_, rfl, rfl⟩
  intro p; cases p <;> decide

/-! ### Plates, passages, barrier -/

theorem test_met_conversions :
    (∀ p : Phase, (inPhase gate p).converter.turn = some .a ∧ ((inPhase gate p).converter.plate .a).phase = p) ∧
      (inPhase gate .zero).barrierSafe ∧ (-256 : Int) ≤ -256 ∧ (256 : Int) ≤ 256 ∧ (257 : Int) > 256 ∧
      2047 < 2 * (4096 / 2 ^ gate.config.resolution) ∧
      (let p : Plate := { Plate.afterReset with phase := .rundown, bad := 2 }
       p.bad = 2 ∧ p.fault = false ∧ Plate.afterReset.bad ≠ 2) ∧
      gate.config.readingClass .empty 599 = .empty ∧ gate.config.readingClass .empty 600 = .occupied ∧
      ({ Plate.afterReset with candidate := some .occupied } : Plate).candidate = some .occupied ∧
      Plate.afterReset.candidate ≠ some .occupied ∧ gate.lane.state ≠ .egress ∧
      (evacuating gate).lane.state = .egress ∧ vessel.presence.number = 0 ∧ gate.admission.record = none ∧
      (presenting gate .awaitPlaces).admission.record ≠ none := by
  refine ⟨fun p => ⟨rfl, rfl⟩, ?_, by decide, by decide, by decide, by decide, by decide, by decide +kernel,
    by decide +kernel, rfl, by decide, by decide, rfl, rfl, rfl, by decide⟩
  unfold State.barrierSafe; decide

/-- The third bad conversion of plate A at a gate's waiting lane: PLATE FAULT with plate and kind, then LANE FAULT with cause and
lane state before (R154, R138). -/
theorem test_third_bad_conversion_faults_plate_and_lane :
    let s := inPhase gate .rundown
    let third :=
      { s with converter := { s.converter with plateA := { s.converter.plateA with bad := 2 } } }
    answers .rundownOverrange third (fun t => t.lane.state == .fault && t.converter.plateA.fault &&
      decide ((t.events.records.map fun r => (r.kind, r.arg1.toNat, r.arg2.toNat)) =
        [(EventKind.plateFault, 1, 1), (EventKind.laneFault, 1, 0)])) = true := by
  decide

/-- The plate's class and the tracker's state set, the tracker armed. -/
def crossing (s : State) (p : PlateId) (k : PlateClass) (x : TrackerState) : State :=
  { s with
    converter := s.converter.setPlate p { s.converter.plate p with cls := k }
    lane := { s.lane with tracker := { s.lane.tracker with state := x, armed := true } } }

/-- Every class at either plate, every tracker state and every barrier state is met, and with them both sides of the entry plate. -/
theorem test_met_class_changes :
    (∀ (p : PlateId) (k : PlateClass) (x : TrackerState),
      ((crossing gate p k x).converter.plate p).cls = k ∧ (crossing gate p k x).lane.tracker.state = x ∧
        (crossing gate p k x).lane.tracker.armed = true) ∧
      (∀ b : BarrierState, (crossing (barrierAt gate b) .b .occupied .none).barrier.state = b) ∧
      gate.lane.tracker.armed = false ∧ gate.lane.tracker.direction = .forward ∧
      ({ gate.lane.tracker with exited := true } : Tracker).exited = true ∧ gate.lane.tracker.exited = false ∧
      (moving gate .paused .off .closedEnd).barrier.movement = some ⟨.closedEnd, .command, false⟩ ∧
      (crossing (moving gate .paused .off .closedEnd) .b .occupied .none).barrier.state = .paused := by
  refine ⟨fun p k x => ?_, fun b => rfl, rfl, rfl, rfl, rfl, rfl, rfl⟩
  cases p <;> exact ⟨rfl, rfl, rfl⟩

/-- Every lane state is met, and a recovery in both roles. -/
theorem test_met_reports : (∀ l : LaneState, (laneAt gate l).lane.state = l) ∧
    ({ (laneAt vessel .fault).lane with recovery := true } : Lane).recovery = true ∧ vessel.presence.number = 0 ∧
      vessel.lane.mode = .flow ∧ gate.presence.number ≠ 0 ∧ gate.lane.recovery = false := by
  refine ⟨fun l => rfl, rfl, rfl, rfl, by decide, rfl⟩

theorem test_met_passages :
    Tracker.unarmed.state = .none ∧ (evacuating gate).lane.state = .egress ∧ gate.lane.state ≠ .egress ∧
      (gate.presence.number ≠ 0 ↔ Direction.reverse = .reverse) ∧
      (vessel.presence.number ≠ 0 ↔ Direction.forward = .reverse) ∧ vessel.presence.number = 0 ∧
      gate.presence.number ≠ 0 ∧ 0 < ({ gate.lane with remaining := 1 } : Lane).remaining ∧
      1 < ({ gate.lane with remaining := 2 } : Lane).remaining ∧ gate.lane.remaining = 0 ∧
      gate.view.state = .none ∧ (ready 4).view.state ≠ .none ∧ gate.lane.unpaid < 65535 ∧
      65535 ≤ ({ gate.lane with unpaid := 65535 } : Lane).unpaid ∧ (ready 0).freeCredits = 0 ∧
      0 < (ready 4).freeCredits ∧ ({ gate.lane with remaining := 1 } : Lane).remaining ≤ 1 := by decide

/-- Two persons with one passage left: one paid, then one unpaid (R132). -/
theorem test_two_persons_on_one_passage :
    let s := { ready 4 with lane := { (ready 4).lane with state := .opened, remaining := 1 } }
    ((s.passageComplete .forward true).events.records.map fun r => (r.kind, r.arg1.toNat, r.arg2.toNat, r.arg3.toNat)) =
      [(EventKind.passageCounted, 1, 0, 0), (EventKind.tailgate, 1, 0, 5)] := by decide

theorem test_met_barrier_switches :
    gate.barrier.switch .openEnd = false ∧ (ready 4).barrier.switch .closedEnd = true ∧
      ((ready 4).barrier.setSwitch .openEnd true).openSwitch = true ∧
      ((ready 4).barrier.setSwitch .openEnd true).closedSwitch = true ∧
      (gate.barrier.setSwitch .openEnd true).closedSwitch = false ∧ (ready 4).barrier.state = .closed ∧
      (ready 4).barrier.unconfirmed = false ∧ (barrierAt gate .halted).barrier.state = .halted ∧
      (moving gate .opening .driveOpen .openEnd).barrier.state = .opening ∧
      (moving gate .closing .driveClose .closedEnd).barrier.state = .closing := by decide

theorem test_met_barrier_drives : ∀ m : FaultMode,
    let o := modeAt (moving gate .opening .driveOpen .openEnd) m
    let c := modeAt (moving gate .closing .driveClose .closedEnd) m
    let counted (n : Nat) : Barrier := { c.barrier with obstructions := n }
    let attempt : Barrier := { o.barrier with movement := some ⟨.openEnd, .command, true⟩ }
    o.config.faultMode = m ∧ o.barrier.output = .driveOpen ∧ o.barrier.state = .opening ∧
      o.barrier.movement = some ⟨.openEnd, .command, false⟩ ∧ attempt.movement = some ⟨.openEnd, .command, true⟩ ∧
      c.barrier.output = .driveClose ∧ c.barrier.state = .closing ∧
      c.barrier.movement = some ⟨.closedEnd, .command, false⟩ ∧
      ({ c.barrier with movement := some ⟨.closedEnd, .reDrive, false⟩ } : Barrier).movement =
        some ⟨.closedEnd, .reDrive, false⟩ ∧
      min ((counted 1).obstructions + 1) 255 ≤ 2 ∧ min ((counted 2).obstructions + 1) 255 = 3 ∧
      3 < min ((counted 3).obstructions + 1) 255 ∧ 3 < min ((counted 255).obstructions + 1) 255 := by
  intro m; cases m <;> decide

theorem test_met_barrier_timers :
    let b : Barrier := { gate.barrier with brakeTimer := .running 0, travelTimer := .running 0, pauseTimer := .running 0 }
    let pausedTo (e : EndId) := moving gate .paused .off e
    b.brakeTimer.isRunning = true ∧ (moving gate .opening .brake .openEnd).barrier.output = .brake ∧
      (moving gate .closing .brake .closedEnd).barrier.state = .closing ∧ b.travelTimer.isRunning = true ∧
      b.pauseTimer.isRunning = true ∧ (∀ e : EndId, (pausedTo e).barrier.state = .paused ∧
        (pausedTo e).barrier.movement = some ⟨e, .command, false⟩ ∧ (pausedTo e).barrier.switch e = false) ∧
      ((pausedTo .closedEnd).barrier.setSwitch .closedEnd true).switch .closedEnd = true ∧
      (pausedTo .closedEnd).plateCondition = true ∧ (occupied (pausedTo .closedEnd)).plateCondition = false ∧
      ({ (pausedTo .closedEnd).barrier with movement := some ⟨.closedEnd, .reDrive, false⟩ } : Barrier).movement =
        some ⟨.closedEnd, .reDrive, false⟩ := by
  refine ⟨rfl, rfl, rfl, rfl, rfl, ?_, rfl, by decide, by decide, rfl⟩
  intro e; cases e <;> decide

theorem test_met_pending_close_and_re_drive :
    let b : Barrier := { gate.barrier with pendingClose := true, reDrive := some .closedEnd }
    b.pendingClose = true ∧ b.state = .unknown ∧ gate.plateCondition = true ∧ b.reDrive = some .closedEnd ∧
      b.movement = none ∧ b.reDriveTimer.isRunning = false ∧ b.switch .closedEnd = false ∧
      b.switch .openEnd = false := by decide

end Sys2Proof.Tests
end

section
/-! SUPPORT. The transmit queue: each of its operations keeps it sound (R19, R20, R22). -/

namespace Sys2Proof.Machine

/-! ## A sound queue under a change of its list -/

/-- A kind that `Link.queueKind` is for: neither TICKET nor an evacuation kind (R19). -/
abbrev FrameKind.IsPlain (k : FrameKind) : Prop := k ≠ .ticket ∧ k.isEvacuation = false

theorem TxEntry.fresh_sound {k : FrameKind} (hk : k ≠ .ticket) : (TxEntry.fresh k).sound := by
  simp [TxEntry.fresh, TxEntry.sound, hk]

theorem TxEntry.freshTicket_sound (c : TicketContents) : ({ TxEntry.fresh .ticket with ticket := some c } : TxEntry).sound := by
  simp [TxEntry.fresh, TxEntry.sound]

/-- Whether the queue is sound is read from the queue and the deferred slot alone. -/
theorem Link.queueSound_congr {l m : Link} (h : l.queueSound) (hq : m.queue = l.queue) (hd : m.deferred = l.deferred) :
    m.queueSound := by
  unfold Link.queueSound at h ⊢
  rwa [hq, hd]

theorem Link.queueSound_empty {l : Link} (hq : l.queue = []) (hd : l.deferred = none) : l.queueSound := by
  simp [Link.queueSound, hq, hd]

/-- While the head is no SENDING evacuation frame, the deferred slot is empty. -/
theorem Link.deferred_none_of_head {l : Link} {e : TxEntry} {rest : List TxEntry} (h : l.queueSound)
    (hq : l.queue = e :: rest) (he : e.sending = true → e.kind.isEvacuation = false) : l.deferred = none := by
  obtain ⟨-, -, -, -, slot⟩ := h
  cases hd : l.deferred with
  | none => rfl
  | some k =>
    obtain ⟨-, x, hx, hs, hv⟩ := slot k hd
    simp only [hq, List.head?_cons, Option.mem_some_iff] at hx
    simp [← hx, he (hx ▸ hs)] at hv

theorem Link.deferred_none_of_noneSending {l : Link} (h : l.queueSound)
    (hn : ∀ e ∈ l.queue, e.kind.isEvacuation = true → e.sending = false) : l.deferred = none := by
  obtain ⟨-, -, -, -, slot⟩ := h
  cases hd : l.deferred with
  | none => rfl
  | some k =>
    obtain ⟨-, x, hx, hs, hv⟩ := slot k hd
    simp [hn x (List.mem_of_mem_head? hx) hv] at hs

/-- Entries changed each in its place, with kind and sending mark kept, leave the queue sound. -/
theorem Link.queueSound_map {l m : Link} (f : TxEntry → TxEntry) (h : l.queueSound) (hq : m.queue = l.queue.map f)
    (hd : m.deferred = l.deferred) (hk : ∀ e, (f e).kind = e.kind) (hs : ∀ e, (f e).sending = e.sending)
    (hf : ∀ e ∈ l.queue, (f e).sound) : m.queueSound := by
  obtain ⟨sound, kinds, evac, waiting, slot⟩ := h
  have hkinds : m.queue.map TxEntry.kind = l.queue.map TxEntry.kind := by simp [hq, Function.comp_def, hk]
  refine ⟨?_, hkinds ▸ kinds, ?_, ?_, ?_⟩
  · simpa [hq] using hf
  · rw [hq, List.filter_map, List.length_map]
    simpa [Function.comp_def, hk] using evac
  · rw [hq, ← List.map_tail]
    intro e he
    obtain ⟨x, hx, rfl⟩ := List.mem_map.1 he
    exact (hs x).trans (waiting x hx)
  · intro k hm
    obtain ⟨hev, x, hx, hsend, hxe⟩ := slot k (hd ▸ hm)
    refine ⟨hev, f x, ?_, by rw [hs, hsend], by rw [hk, hxe]⟩
    simp_all [List.head?_map]

/-- Entries leaving leave the queue sound, where the deferred slot was or is emptied, or the SENDING evacuation frame that it waits
for stays the head. -/
theorem Link.queueSound_sublist {l m : Link} (h : l.queueSound) (hq : m.queue.Sublist l.queue)
    (hd : ∀ k, m.deferred = some k → l.deferred = some k ∧ l.queue.head? = m.queue.head?) : m.queueSound := by
  obtain ⟨sound, kinds, evac, waiting, slot⟩ := h
  refine ⟨fun e he => sound e (hq.subset he), kinds.sublist (hq.map _), (hq.filter _).length_le.trans evac,
    fun e he => waiting e (hq.tail.subset he), fun k hm => ?_⟩
  obtain ⟨hl, head⟩ := hd k hm
  exact head ▸ slot k hl

/-- Entries leaving, with a SENDING evacuation frame kept, leave the queue sound. -/
theorem Link.queueSound_filter {l m : Link} (p : TxEntry → Bool) (h : l.queueSound) (hq : m.queue = l.queue.filter p)
    (hd : ∀ k, m.deferred = some k → l.deferred = some k)
    (hp : ∀ e ∈ l.queue, e.sending = true → e.kind.isEvacuation = true → p e = true) : m.queueSound := by
  refine Link.queueSound_sublist h (hq ▸ List.filter_sublist) fun k hm => ⟨hd k hm, ?_⟩
  obtain ⟨-, -, -, -, slot⟩ := h
  obtain ⟨-, x, hx, hs, hv⟩ := slot k (hd k hm)
  cases hl : l.queue with
  | nil => simp [hl] at hx
  | cons a rest =>
    have ha : a = x := by simpa [hl] using hx
    simp [hq, hl, ha, hp x (List.mem_of_mem_head? hx) hs hv]

/-- Another entry of the head's kind in its place leaves the queue sound, with the deferred slot empty. -/
theorem Link.queueSound_replaceHead {l m : Link} {e e' : TxEntry} {rest : List TxEntry} (h : l.queueSound)
    (hl : l.queue = e :: rest) (hm : m.queue = e' :: rest) (hd : m.deferred = none) (hk : e'.kind = e.kind)
    (he : e'.sound) : m.queueSound := by
  obtain ⟨sound, kinds, evac, waiting, -⟩ := h
  rw [hl] at sound kinds evac waiting
  refine ⟨?_, ?_, ?_, ?_, by simp [hd]⟩ <;> rw [hm]
  · exact List.forall_mem_cons.2 ⟨he, (List.forall_mem_cons.1 sound).2⟩
  · simpa [hk] using kinds
  · simpa only [← List.countP_eq_length_filter, List.countP_cons, hk] using evac
  · exact waiting

/-- A WAITING entry of a kind not yet there joins a sound queue at the tail. -/
theorem Link.queueSound_append {l m : Link} {e : TxEntry} (h : l.queueSound) (hq : m.queue = l.queue ++ [e])
    (hd : m.deferred = l.deferred) (he : e.sound) (hw : e.sending = false) (hk : ∀ x ∈ l.queue, x.kind ≠ e.kind)
    (hv : e.kind.isEvacuation = false) : m.queueSound := by
  obtain ⟨sound, kinds, evac, waiting, slot⟩ := h
  refine ⟨?_, ?_, ?_, ?_, ?_⟩
  · intro x hx
    rcases List.mem_append.1 (hq ▸ hx) with hx | hx
    · exact sound x hx
    · rwa [List.mem_singleton.1 hx]
  · rw [hq, List.map_append, List.nodup_append]
    refine ⟨kinds, by simp, ?_⟩
    simpa using hk
  · simpa [hq, List.filter_append, hv] using evac
  · rw [hq]
    cases hl : l.queue with
    | nil => simp
    | cons a rest =>
      intro x hx
      rcases List.mem_append.1 (by simpa using hx : x ∈ rest ++ [e]) with hx | hx
      · exact waiting x (by simpa [hl] using hx)
      · rwa [List.mem_singleton.1 hx]
  · intro k hm
    obtain ⟨hev, x, hx, hs, hxe⟩ := slot k (hd ▸ hm)
    refine ⟨hev, x, ?_, hs, hxe⟩
    cases hl : l.queue with
    | nil => simp [hl] at hx
    | cons a rest => simpa [hq, hl] using hx

/-! ## The queue's own operations -/

/-- No entry of a kind is queued, as `any` sees it. -/
theorem any_kind_eq_false {q : List TxEntry} {k : FrameKind} :
    (q.any fun e => e.kind == k) = false ↔ ∀ e ∈ q, e.kind ≠ k := by
  simp

theorem Link.queueKind_queueSound {l : Link} {k : FrameKind} (h : l.queueSound) (hk : k.IsPlain) :
    (l.queueKind k).queueSound := by
  unfold Link.queueKind
  split
  · refine Link.queueSound_map _ h rfl rfl ?_ ?_ ?_
    · intro e; split <;> rfl
    · intro e; split <;> rfl
    · intro e he
      obtain ⟨attempts, ticket, mark⟩ := h.1 e he
      split
      next hc =>
        simp only [Bool.and_eq_true, beq_iff_eq] at hc
        exact ⟨attempts, ticket, fun _ => ⟨hc.2, hc.1 ▸ hk.1, hc.1 ▸ hk.2⟩⟩
      next => exact ⟨attempts, ticket, mark⟩
  next hn =>
    exact Link.queueSound_append h rfl rfl (TxEntry.fresh_sound hk.1) rfl
      (any_kind_eq_false.1 (Bool.eq_false_iff.2 hn)) hk.2

theorem Link.queueTicket_queueSound {l : Link} (h : l.queueSound) (c : TicketContents) : (l.queueTicket c).queueSound := by
  unfold Link.queueTicket
  split
  · exact h
  next hn =>
    exact Link.queueSound_append h rfl rfl (TxEntry.freshTicket_sound c) rfl
      (any_kind_eq_false.1 (Bool.eq_false_iff.2 hn)) rfl

theorem Link.withdraw_queueSound {l : Link} (h : l.queueSound) (k : FrameKind) : (l.withdraw k).queueSound := by
  have hleft : ({ l with
      queue := l.queue.filter fun e => !(e.kind == k && !e.sending)
      deferred := if l.deferred = some k then none else l.deferred } : Link).queueSound := by
    refine Link.queueSound_filter _ h rfl ?_ ?_
    · intro j hj
      dsimp only at hj
      split at hj
      · cases hj
      · exact hj
    · intro e _ hs _; simp [hs]
  refine Link.queueSound_map _ hleft rfl rfl ?_ ?_ ?_
  · intro e; split <;> rfl
  · intro e; split <;> rfl
  · intro e he
    obtain ⟨attempts, ticket, mark⟩ := hleft.1 e he
    split
    · exact ⟨attempts, ticket, nofun⟩
    · exact ⟨attempts, ticket, mark⟩

theorem placeAtHead_cons (e a : TxEntry) (rest : List TxEntry) :
    placeAtHead e (a :: rest) = if a.sending then a :: e :: rest else e :: a :: rest := rfl

theorem placeAtHead_perm (e : TxEntry) (q : List TxEntry) : (placeAtHead e q).Perm (e :: q) := by
  cases q with
  | nil => exact .refl _
  | cons a rest =>
    rw [placeAtHead_cons]
    split
    · exact .swap _ _ _
    · exact .refl _

/-- With WAITING entries alone behind the head, all but the head still wait after a WAITING entry is placed. -/
theorem placeAtHead_tail_waiting {e : TxEntry} {q : List TxEntry} (he : e.sending = false)
    (hq : ∀ x ∈ q.tail, x.sending = false) : ∀ x ∈ (placeAtHead e q).tail, x.sending = false := by
  cases q with
  | nil => simp [placeAtHead]
  | cons a rest =>
    rw [placeAtHead_cons]
    split
    · simpa [he] using hq
    next ha => simpa [ha] using hq

/-- An evacuation kind placed in a sound queue that holds neither (R20). -/
theorem Link.queueSound_place {l m : Link} {k : FrameKind} (h : l.queueSound)
    (hq : m.queue = placeAtHead (TxEntry.fresh k) l.queue) (hd : m.deferred = none)
    (hn : ∀ x ∈ l.queue, x.kind.isEvacuation = false) (hk : k.isEvacuation = true) : m.queueSound := by
  obtain ⟨sound, kinds, -, waiting, -⟩ := h
  have perm := hq ▸ placeAtHead_perm (TxEntry.fresh k) l.queue
  have hfresh : (TxEntry.fresh k).sound := TxEntry.fresh_sound (by rintro rfl; cases hk)
  refine ⟨?_, ?_, ?_, ?_, by simp [hd]⟩
  · intro x hx
    rcases List.mem_cons.1 (perm.mem_iff.1 hx) with rfl | hx
    · exact hfresh
    · exact sound x hx
  · refine (perm.map TxEntry.kind).nodup_iff.2 (List.nodup_cons.2 ⟨?_, kinds⟩)
    intro hmem
    obtain ⟨x, hx, hxk⟩ := List.mem_map.1 hmem
    have := hn x hx
    simp_all [TxEntry.fresh]
  · rw [(perm.filter _).length_eq, List.filter_cons]
    have : l.queue.filter (fun e => e.kind.isEvacuation) = [] := by simpa using hn
    split <;> simp [this]
  · rw [hq]; exact placeAtHead_tail_waiting rfl waiting

theorem Link.queueEvacuation_queueSound {l : Link} {k : FrameKind} (h : l.queueSound) (hk : k.isEvacuation = true) :
    (l.queueEvacuation k).queueSound := by
  unfold Link.queueEvacuation
  split
  next hs =>
    obtain ⟨sound, kinds, evac, waiting, slot⟩ := h
    refine ⟨sound, kinds, evac, waiting, ?_⟩
    rintro j ⟨⟩
    refine ⟨hk, ?_⟩
    obtain ⟨x, hx, hv, hs⟩ : ∃ x ∈ l.queue, x.kind.isEvacuation = true ∧ x.sending = true := by simpa using hs
    refine ⟨x, ?_, hs, hv⟩
    cases hl : l.queue with
    | nil => simp [hl] at hx
    | cons a rest =>
      rcases List.mem_cons.1 (hl ▸ hx) with rfl | hx
      · rfl
      · simp [waiting x (by simpa [hl] using hx)] at hs
  next hn =>
    have hwait : ∀ e ∈ l.queue, e.kind.isEvacuation = true → e.sending = false := by simpa using hn
    have hnone := Link.deferred_none_of_noneSending h hwait
    split
    · exact h
    next hother =>
      have hrest : ({ l with queue := l.queue.filter fun e => !e.kind.isEvacuation } : Link).queueSound :=
        Link.queueSound_filter _ h rfl (fun _ => id) fun e he hs hv => by simp [hwait e he hv] at hs
      exact Link.queueSound_place hrest rfl hnone (by simp) hk

end Sys2Proof.Machine
end

section
/-! SUPPORT. The moves that the operations of the blocks make on the link controller: queuing a kind other than EGRESS and EGRESS END,
withdrawing one, aborting the own TICKET, and what leaves the queue alone. One lemma per operation. -/

namespace Sys2Proof.Machine

/-- The link controllers that the operations of the blocks make of `l`, but for the evacuation frames, the start of a transmission
and its end: kinds are queued and withdrawn (R19, R22), a TICKET is aborted (R23), and fields besides the queue change. -/
inductive Link.Moves (l : Link) : Link → Prop
  | refl : l.Moves l
  | aside {m n : Link} : l.Moves m → n.queue = m.queue → n.deferred = m.deferred → l.Moves n
  | kindQueued {m : Link} {k : FrameKind} : l.Moves m → k.IsPlain → l.Moves (m.queueKind k)
  | ticketQueued {m : Link} (c : TicketContents) : l.Moves m → l.Moves (m.queueTicket c)
  | withdrawn {m : Link} (k : FrameKind) : l.Moves m → l.Moves (m.withdraw k)
  | ticketAborted {m n : Link} : l.Moves m → (n.queue = m.queue.filter fun e => e.kind != .ticket) →
      n.deferred = m.deferred → l.Moves n

namespace Link.Moves

variable {l m : Link} {s : State}

/-- A sound queue stays sound. -/
theorem queueSound (h : l.Moves m) (hl : l.queueSound) : m.queueSound := by
  induction h with
  | refl => exact hl
  | aside _ hq hd ih => exact Link.queueSound_congr ih hq hd
  | kindQueued _ hk ih => exact Link.queueKind_queueSound ih hk
  | ticketQueued c _ ih => exact Link.queueTicket_queueSound ih c
  | withdrawn k _ ih => exact Link.withdraw_queueSound ih k
  | ticketAborted _ hq hd ih =>
    refine Link.queueSound_filter _ ih hq (fun k => hd ▸ id) fun e _ _ hv => ?_
    simp only [bne_iff_ne]
    rintro hk
    simp [hk, FrameKind.isEvacuation] at hv

/-- Nothing joins the deferred slot. -/
theorem deferred_of_deferred (h : l.Moves m) {k : FrameKind} (hm : m.deferred = some k) : l.deferred = some k := by
  induction h with
  | refl => exact hm
  | aside _ _ hd ih => exact ih (hd ▸ hm)
  | kindQueued _ _ ih => unfold Link.queueKind at hm; split at hm <;> exact ih hm
  | ticketQueued _ _ ih => unfold Link.queueTicket at hm; split at hm <;> exact ih hm
  | withdrawn _ _ ih =>
    refine ih ?_
    simp only [Link.withdraw] at hm
    split at hm
    · cases hm
    · exact hm
  | ticketAborted _ _ hd ih => exact ih (hd ▸ hm)

/-- The same moves are made with the deferred slot empty. -/
theorem slotEmptied (h : l.Moves m) : Link.Moves { l with deferred := none } { m with deferred := none } := by
  induction h with
  | refl => exact .refl
  | aside _ hq _ ih => exact ih.aside hq rfl
  | @kindQueued m k _ hk ih =>
    refine (ih.kindQueued hk).aside ?_ ?_ <;> unfold Link.queueKind <;> dsimp only <;> split <;> rfl
  | @ticketQueued m c _ ih =>
    refine (ih.ticketQueued c).aside ?_ ?_ <;> unfold Link.queueTicket <;> dsimp only <;> split <;> rfl
  | withdrawn k _ ih => exact (ih.withdrawn k).aside rfl (by simp [Link.withdraw])
  | ticketAborted _ hq _ ih => exact ih.ticketAborted hq rfl

/-- One of two states that the moves reach. -/
theorem ite {t : State} {p : Prop} [Decidable p] (hs : l.Moves s.link) (ht : l.Moves t.link) :
    l.Moves (if p then s else t).link := by
  split
  · exact hs
  · exact ht

/-- An operation made on a condition. -/
theorem applyIf {t : State} {p : Prop} [Decidable p] (hs : l.Moves s.link) (op : l.Moves s.link → l.Moves t.link) :
    l.Moves (if p then t else s).link :=
  .ite (op hs) hs

/-- An operation made unless a condition holds. -/
theorem applyUnless {t : State} {p : Prop} [Decidable p] (hs : l.Moves s.link) (op : l.Moves s.link → l.Moves t.link) :
    l.Moves (if p then s else t).link :=
  .ite hs (op hs)

/-! ## Shared operations -/

theorem queueKind (h : l.Moves s.link) {k : FrameKind} (hk : k.IsPlain := by decide) : l.Moves (s.queueKind k).link :=
  h.kindQueued hk

theorem withdraw (h : l.Moves s.link) (k : FrameKind) : l.Moves (s.withdraw k).link := h.withdrawn k

theorem statusTrigger (h : l.Moves s.link) : l.Moves s.statusTrigger.link := .ite h.queueKind h

theorem setPort (h : l.Moves s.link) (x : HostPort) : l.Moves (s.setPort x).link := h
theorem setLink (h : l.Moves s.link) (x : Link) (hq : x.queue = s.link.queue := by rfl)
    (hd : x.deferred = s.link.deferred := by rfl) : l.Moves (s.setLink x).link :=
  h.aside hq hd
theorem setPresence (h : l.Moves s.link) (x : Presence) : l.Moves (s.setPresence x).link := h
theorem setVessel (h : l.Moves s.link) (x : Vessel) : l.Moves (s.setVessel x).link := h
theorem setView (h : l.Moves s.link) (x : WindowView) : l.Moves (s.setView x).link := h
theorem setAccount (h : l.Moves s.link) (x : Account) : l.Moves (s.setAccount x).link := h
theorem setAdmission (h : l.Moves s.link) (x : Admission) : l.Moves (s.setAdmission x).link := h
theorem setLane (h : l.Moves s.link) (x : Lane) : l.Moves (s.setLane x).link := h
theorem setConverter (h : l.Moves s.link) (x : Converter) : l.Moves (s.setConverter x).link := h
theorem setBarrier (h : l.Moves s.link) (x : Barrier) : l.Moves (s.setBarrier x).link := h
theorem setEgress (h : l.Moves s.link) (x : Egress) : l.Moves (s.setEgress x).link := h
theorem raise (h : l.Moves s.link) (k : EventKind) (a b c : Nat) : l.Moves (s.raise k a b c).link := h

theorem settleClear {t : State} (h : l.Moves t.link) : l.Moves (settleClear s t).link := by simpa using h

/-! ## The gate place account -/

theorem startClaim (h : l.Moves s.link) (c : Claim) (w : Nat) : l.Moves (s.startClaim c w).link :=
  (h.setAccount _).queueKind

theorem backgroundCheck (h : l.Moves s.link) : l.Moves s.backgroundCheck.link := .ite (h.startClaim _ _) h

theorem dropClaim (h : l.Moves s.link) : l.Moves s.dropClaim.link := h.withdrawn .claim

theorem endClaim (h : l.Moves s.link) : l.Moves s.endClaim.link := .ite h h.dropClaim

theorem demand (h : l.Moves s.link) (party : Nat) : l.Moves (s.demand party).link :=
  .ite (.ite (h.startClaim _ _) h) ((h.setAccount _).queueKind)

theorem returnFree (h : l.Moves s.link) : l.Moves s.returnFree.link := .ite h ((h.setAccount _).statusTrigger)

theorem enterReturn (h : l.Moves s.link) : l.Moves s.enterReturn.link := h.endClaim.returnFree

theorem refundAccount (h : l.Moves s.link) (n : Nat) : l.Moves (s.refundAccount n).link :=
  .ite ((h.setAccount _).returnFree) ((h.setAccount _).backgroundCheck)

theorem lapse (h : l.Moves s.link) : l.Moves s.lapse.link := .ite ((h.setAccount _).returnFree) h

theorem clearAccount (h : l.Moves s.link) : l.Moves s.clearAccount.link :=
  .ite ((h.endClaim.setAccount _).setLane _) ((h.endClaim.setAccount _).setLane _).statusTrigger

/-! ## Hold, refusal and the events that stop a presentation -/

theorem holdEffective (h : l.Moves s.link) : l.Moves s.holdEffective.link := (h.setLane _).enterReturn

theorem holdCheck (h : l.Moves s.link) : l.Moves s.holdCheck.link := .ite h.holdEffective h

theorem refuse (h : l.Moves s.link) (r : Reason) (d : Nat) : l.Moves (s.refuse r d).link := by
  unfold State.refuse
  split
  · exact h
  next p _ =>
    have lapsed : l.Moves (if p.state = .awaitLink then (s.withdraw .ticket).lapse else s).link :=
      .ite (h.withdraw _).lapse h
    exact (((lapsed.setAccount _).raise _ _ _ _).setAdmission _).holdCheck

theorem stopPresentation (h : l.Moves s.link) (c : StopCause) : l.Moves (s.stopPresentation c).link := by
  unfold State.stopPresentation
  split
  · exact h
  · exact .ite h (h.refuse _ _)

theorem abortTicket (h : l.Moves s.link) :
    l.Moves (s.setLink { s.link with
      queue := s.link.queue.filter fun e => e.kind != .ticket
      txFrame := none, hunt := .hunt, buffer := [], ones := 0 }).link :=
  h.ticketAborted rfl rfl

theorem abortPresentation (h : l.Moves s.link) : l.Moves s.abortPresentation.link :=
  (ite h.abortTicket (h.withdraw _)).refuse _ _

/-! ## Reports to the lane -/

theorem reportOpen (h : l.Moves s.link) : l.Moves s.reportOpen.link := .ite h (.ite h h)

theorem reportClosed (h : l.Moves s.link) : l.Moves s.reportClosed.link :=
  .ite ((h.setLane _).holdCheck) (.ite ((h.setLane _).raise _ _ _ _).holdCheck h)

theorem reportReversed (h : l.Moves s.link) : l.Moves s.reportReversed.link := .ite h (.ite h h)

theorem enterFault (h : l.Moves s.link) (c : FaultCause) : l.Moves (s.enterFault c).link :=
  ite ((h.setLane _).stopPresentation _).enterReturn h

theorem reportFault (h : l.Moves s.link) (c : FaultCause) : l.Moves (s.reportFault c).link := by
  unfold State.reportFault
  split
  case h_6 => exact (h.setLane _).enterFault c
  case h_7 => exact h
  case h_8 => exact h
  all_goals exact h.enterFault c

/-! ## The barrier driver -/

theorem reportEnd (h : l.Moves s.link) (e : EndId) : l.Moves (s.reportEnd e).link := by
  cases e
  · exact h.reportOpen
  · exact h.reportClosed

theorem reachEnd (h : l.Moves s.link) (e : EndId) : l.Moves (s.reachEnd e).link := (h.setBarrier _).reportEnd e

theorem beginOpen (h : l.Moves s.link) : l.Moves s.beginOpen.link := .ite (h.reachEnd _) h

theorem beginClose (h : l.Moves s.link) : l.Moves s.beginClose.link := .ite (h.reachEnd _) h

theorem turnOpen (h : l.Moves s.link) : l.Moves s.turnOpen.link := .ite (h.reachEnd _) h

theorem turnClose (h : l.Moves s.link) : l.Moves s.turnClose.link := .ite (h.reachEnd _) h

theorem commandTaken (h : l.Moves s.link) : l.Moves s.commandTaken.link := h

theorem egressAttempt (h : l.Moves s.link) : l.Moves s.egressAttempt.link := .ite (h.reachEnd _) h

theorem openCommand (h : l.Moves s.link) (e : Bool) : l.Moves (s.openCommand e).link := by
  unfold State.openCommand
  split
  · exact h.commandTaken.beginOpen
  · exact h.commandTaken.beginOpen
  · exact h
  · exact h.commandTaken.reportOpen
  · exact h.commandTaken.turnOpen
  · exact h.commandTaken.beginOpen
  · exact .ite h.commandTaken.egressAttempt h

theorem closeCommand (h : l.Moves s.link) : l.Moves s.closeCommand.link := by
  unfold State.closeCommand
  split
  · exact .ite h.commandTaken.beginClose ((h.setBarrier _).reportReversed)
  · exact h.commandTaken.reportClosed
  · exact .ite h.commandTaken.beginClose h.reportReversed
  · exact .ite h.commandTaken.turnClose h.reportReversed
  · exact h
  · exact .ite h.commandTaken.beginClose h.reportReversed
  · exact h

theorem plateBroken (h : l.Moves s.link) : l.Moves s.plateBroken.link :=
  .ite ((h.setBarrier _).reportReversed) (.ite ((h.setBarrier _).reportReversed) h)

theorem halt (h : l.Moves s.link) (c : FaultCause) : l.Moves (s.halt c).link := (h.setBarrier _).reportFault c

theorem stallByMode (h : l.Moves s.link) : l.Moves s.stallByMode.link := by
  unfold State.stallByMode
  split
  · exact h.halt _
  · exact .ite h (h.halt _)
  · exact h
  · exact h

theorem travelByMode (h : l.Moves s.link) : l.Moves s.travelByMode.link := by
  unfold State.travelByMode
  split
  · exact h.halt _
  · exact .ite h (h.halt _)
  · exact h.reachEnd _
  · exact h.reachEnd _

theorem obstruction (h : l.Moves s.link) : l.Moves s.obstruction.link :=
  .ite ((h.setBarrier _).plateBroken)
    (.ite ((h.setBarrier _).plateBroken) ((h.setBarrier _).stallByMode))

theorem clearLatch (h : l.Moves s.link) : l.Moves s.clearLatch.link :=
  .ite (.ite (.ite ((h.setBarrier _).openCommand _) h) h) h

theorem barrierEgress (h : l.Moves s.link) : l.Moves s.barrierEgress.link := 
  (ite ((h.setBarrier _).setBarrier _) (h.setBarrier _)).openCommand _

theorem switchActive (h : l.Moves s.link) (e : EndId) : l.Moves (s.switchActive e).link :=
  .ite (.ite h (h.halt _)) (.ite (h.reachEnd _) h)

theorem endPause (h : l.Moves s.link) : l.Moves s.endPause.link :=
  .ite (h.reachEnd _) (.ite h (.ite h ((h.setBarrier _).reportReversed)))

/-! ## The lane -/

theorem tallyCheck (h : l.Moves s.link) : l.Moves s.tallyCheck.link := .ite h.queueKind h

theorem authorise (h : l.Moves s.link) (n : Nat) : l.Moves (s.authorise n).link :=
  .ite (((h.setLane _).setLane _).openCommand _) (h.setLane _)

theorem admitParty (h : l.Moves s.link) (n p w : Nat) : l.Moves (s.admitParty n p w).link :=
  ((((h.setAccount _).authorise _).raise _ _ _ _).setAdmission _).backgroundCheck

theorem awaitLink (h : l.Moves s.link) (p : Presentation) : l.Moves (s.awaitLink p).link := h.ticketQueued _

theorem claimReport (h : l.Moves s.link) (c : ClaimCause) : l.Moves (s.claimReport c).link := by
  unfold State.claimReport
  split
  · exact h
  · exact .ite (.ite (.ite (h.admitParty _ _ _) (h.awaitLink _)) (h.refuse _ _)) h

theorem endClaimWith (h : l.Moves s.link) (c : ClaimCause) : l.Moves (s.endClaimWith c).link :=
  .ite (h.dropClaim.claimReport c) h.dropClaim

theorem refund (h : l.Moves s.link) (c : RefundCause) : l.Moves (s.refund c).link :=
  .ite h ((ite ((h.setLane _).refundAccount _) (h.setLane _)).raise _ _ _ _).tallyCheck

theorem unarmTracker (h : l.Moves s.link) : l.Moves s.unarmTracker.link := (h.setLane _).tallyCheck

theorem countUnit (h : l.Moves s.link) (k : UnitCount) : l.Moves (s.countUnit k).1.link := by
  unfold State.countUnit
  split
  · exact h
  · split
    · split <;> exact h
    · exact h

theorem countUnits (n : Nat) (h : l.Moves s.link) (k : UnitCount) : l.Moves (State.countUnits n s k).1.link := by
  induction n generalizing s k with
  | zero => exact h
  | succ n ih => exact ih (h.countUnit k) _

theorem countForward (h : l.Moves s.link) (multiple : Bool) : l.Moves (s.countForward multiple).link :=
  ((((h.countUnits _ _).setLane _).applyIf (·.raise _ _ _ _)).applyIf (·.raise _ _ _ _)).applyUnless backgroundCheck

theorem alight (h : l.Moves s.link) : l.Moves s.alight.link :=
  (ite (h.raise _ _ _ _) (h.setVessel _)).raise _ _ _ _

theorem passageComplete (h : l.Moves s.link) (d : Direction) (multiple : Bool) :
    l.Moves (s.passageComplete d multiple).link := by
  cases d
  · exact .ite (h.setLane _) (.ite (h.countForward _) (h.raise _ _ _ _))
  · exact .ite (h.setLane _) (.ite (h.raise _ _ _ _) h.alight)

theorem trackerChange (h : l.Moves s.link) (p : PlateId) (old : PlateClass) : l.Moves (s.trackerChange p old).link := by
  unfold State.trackerChange
  dsimp only
  split
  · split
    · exact h
    · split
      · split
        · exact ((h.setLane _).setLane _).tallyCheck
        · exact (((h.setLane _).passageComplete _ _).setLane _).tallyCheck
      · split
        · exact h
        · exact (h.setLane _).passageComplete _ _
  · exact h

theorem loiterChange (h : l.Moves s.link) (p : PlateId) (old : PlateClass) : l.Moves (s.loiterChange p old).link :=
  .ite (h.setLane _) (.ite (h.setLane _) h)

theorem alightOpen (h : l.Moves s.link) (p : PlateId) (old : PlateClass) : l.Moves (s.alightOpen p old).link :=
  .ite ((h.setLane _).openCommand _) h

theorem deliverClass (h : l.Moves s.link) (p : PlateId) (old : PlateClass) : l.Moves (s.deliverClass p old).link := by
  have delivered := ((h.alightOpen p old).loiterChange p old).trackerChange p old
  exact .ite delivered.plateBroken delivered

theorem takeFlow (h : l.Moves s.link) : l.Moves s.takeFlow.link := by
  unfold State.takeFlow
  split
  · exact h
  · split
    · exact h
    · have quiet := h.unarmTracker.setLane
      dsimp only
      split
      case h_5 => exact (quiet _).applyIf (·.openCommand _)
      case h_6 | h_7 | h_8 => exact quiet _
      all_goals exact ((quiet _).setLane _).openCommand _

theorem takeAlight (h : l.Moves s.link) : l.Moves s.takeAlight.link := .ite h (h.setLane _)

theorem clearFaults (h : l.Moves s.link) : l.Moves s.clearFaults.1.link := by
  have cleared : l.Moves s.clearPlateFaults.link := h.setConverter _
  unfold State.clearFaults
  dsimp only
  split
  · split
    · exact cleared.clearLatch
    · exact .ite ((cleared.clearLatch.setLane _).openCommand _) (cleared.clearLatch.setLane _)
  · split
    · exact (cleared.setLane _).clearLatch.raise _ _ _ _
    · exact h

theorem restartLane (h : l.Moves s.link) : l.Moves s.restartLane.1.link := by
  unfold State.restartLane
  split
  · exact h
  · exact ((((((((h.applyIf (·.stopPresentation _)).refund _).setLane _).setConverter _).setBarrier _).applyIf
      (·.raise _ _ _ _)).applyIf (·.openCommand _)).tallyCheck).holdCheck

theorem laneEgress (h : l.Moves s.link) : l.Moves s.laneEgress.link := (h.refund _).setLane _

theorem laneEgressEnd (h : l.Moves s.link) : l.Moves s.laneEgressEnd.link := by
  unfold State.laneEgressEnd
  split
  · exact .ite ((h.setLane _).stopPresentation _).enterReturn (h.setLane _)
  · exact h

theorem takeHold (h : l.Moves s.link) : l.Moves s.takeHold.1.link := by
  unfold State.takeHold
  split
  · exact h
  · split
    · exact h
    · dsimp only
      split
      · exact (h.setLane _).holdCheck
      · exact h

theorem takeRelease (h : l.Moves s.link) : l.Moves s.takeRelease.1.link := by
  unfold State.takeRelease
  split
  · exact h
  · split <;> exact h

theorem takeLaneMode (h : l.Moves s.link) (mode : Byte) : l.Moves (s.takeLaneMode mode).1.link := by
  unfold State.takeLaneMode
  split
  · exact h
  · split
    · exact h
    · exact .ite h.takeFlow h.takeAlight

/-! ## The converter -/

theorem settleCheck (h : l.Moves s.link) : l.Moves s.settleCheck.link := .ite (h.setLane _) h

theorem goodConversion (h : l.Moves s.link) (p : PlateId) (r : Nat) : l.Moves (s.goodConversion p r).link :=
  (ite (h.setConverter _) ((h.setConverter _).deliverClass _ _)).settleCheck

theorem plateFault (h : l.Moves s.link) (p : PlateId) (k : ConversionResult) : l.Moves (s.plateFault p k).link :=
  ((((h.setConverter _).unarmTracker.setLane _).applyUnless (·.deliverClass _ _)).raise _ _ _ _).reportFault _

theorem badConversion (h : l.Moves s.link) (p : PlateId) (k : ConversionResult) : l.Moves (s.badConversion p k).link :=
  .ite ((h.setConverter _).plateFault _ _) (h.setConverter _)

/-! ## The vessel station -/

theorem overCapacityCheck (h : l.Moves s.link) : l.Moves s.overCapacityCheck.link := .ite (h.raise _ _ _ _) h

theorem completeWindow (h : l.Moves s.link) (c : Bool) : l.Moves (s.completeWindow c).link :=
  ((h.setVessel _).raise _ _ _ _).statusTrigger.overCapacityCheck

theorem completionCheck (h : l.Moves s.link) : l.Moves s.completionCheck.link := .ite (h.completeWindow _) h

theorem closeWindow (h : l.Moves s.link) (c : CloseCause) : l.Moves (s.closeWindow c).link :=
  .ite (((h.queueKind.setVessel _).statusTrigger.raise _ _ _ _).completionCheck) h

theorem takeOpenWindow (h : l.Moves s.link) : l.Moves s.takeOpenWindow.1.link := by
  unfold State.takeOpenWindow
  split
  · exact h
  · split
    · exact h
    · exact ((h.setVessel _).takeFlow.queueKind.setVessel _).statusTrigger.raise _ _ _ _

theorem takeCloseWindow (h : l.Moves s.link) : l.Moves s.takeCloseWindow.1.link := by
  unfold State.takeCloseWindow
  split
  · exact h.closeWindow _
  · exact h

theorem takeSetOnboard (h : l.Moves s.link) (n : Word16) : l.Moves (s.takeSetOnboard n).1.link := by
  unfold State.takeSetOnboard
  split
  · exact (h.setVessel _).overCapacityCheck
  · exact h

theorem accountLostTest (h : l.Moves s.link) (g : Station) (r : GateStatus) : l.Moves (s.accountLostTest g r).link :=
  .ite ((h.setVessel _).raise _ _ _ _) h

theorem markDue (h : l.Moves s.link) (g : Station) : l.Moves (s.markDue g).link := (h.setVessel _).queueKind

theorem repairGrant (h : l.Moves s.link) (g : Station) (r : GateStatus) : l.Moves (s.repairGrant g r).link :=
  .ite (h.markDue _) h

theorem gateStatusHeard (h : l.Moves s.link) (g : Station) (w : Byte) (r : GateStatus) :
    l.Moves (s.gateStatusHeard g w r).link :=
  .ite (((h.accountLostTest g r).repairGrant g r).setVessel _) h

theorem lateTally (h : l.Moves s.link) (c : ClosedWindow) (g : Station) (r : GateStatus) :
    l.Moves (s.lateTally c g r).link :=
  ((h.setVessel _).raise _ _ _ _).overCapacityCheck

theorem tallyHeard (h : l.Moves s.link) (g : Station) (w : Byte) (r : GateStatus) : l.Moves (s.tallyHeard g w r).link := by
  unfold State.tallyHeard
  split
  · exact ((h.accountLostTest g r).setVessel _).completionCheck
  · split
    · split
      · exact .ite (h.lateTally _ _ _) h
      · exact h
    · exact h

theorem windowFullCheck (h : l.Moves s.link) : l.Moves s.windowFullCheck.link :=
  .ite ((h.setVessel _).raise _ _ _ _) h

theorem claimHeard (h : l.Moves s.link) (g : Station) (w : Byte) (n : Nat) : l.Moves (s.claimHeard g w n).link :=
  .ite ((h.setVessel _).markDue _).windowFullCheck h

theorem requeueGrant (h : l.Moves s.link) : l.Moves s.requeueGrant.link := .ite h.queueKind h

theorem grantCompleted (h : l.Moves s.link) (f : Frame) : l.Moves (s.grantCompleted f).link :=
  .ite (h.setVessel _).requeueGrant h

/-! ## The window view -/

theorem leftOpen (h : l.Moves s.link) : l.Moves s.leftOpen.link := (h.stopPresentation _).endClaim

theorem viewClose (h : l.Moves s.link) : l.Moves s.viewClose.link :=
  (((h.setView _).raise _ _ _ _).applyIf leftOpen).tallyCheck

theorem viewOrphan (h : l.Moves s.link) : l.Moves s.viewOrphan.link := .ite ((h.setView _).raise _ _ _ _).leftOpen h

theorem viewOpen (h : l.Moves s.link) (w o : Nat) : l.Moves (s.viewOpen w o).link :=
  ((h.setView _).clearAccount.raise _ _ _ _).statusTrigger

theorem viewResume (h : l.Moves s.link) : l.Moves s.viewResume.link := (h.setView _).raise _ _ _ _

theorem openShown (h : l.Moves s.link) (w o : Nat) : l.Moves (s.openShown w o).link := by
  unfold State.openShown
  split
  · exact .ite h (h.viewOpen _ _)
  · exact .ite h h.viewClose
  · exact .ite h.viewResume h.viewClose
  · exact h

theorem closeHeard (h : l.Moves s.link) (w : Byte) : l.Moves (s.closeHeard w).link := .ite h.viewClose h

theorem vesselStatusHeard (h : l.Moves s.link) (w : Byte) (b : List Byte) : l.Moves (s.vesselStatusHeard w b).link := by
  unfold State.vesselStatusHeard
  split
  · exact h.openShown _ _
  · split
    · exact .ite (h.setView _) h
    · exact h.viewClose
    · exact h.viewClose
    · exact h

theorem abandon (h : l.Moves s.link) : l.Moves s.abandon.link := (((h.refund _).setView _).raise _ _ _ _).clearAccount

theorem windowEnded (h : l.Moves s.link) (c : Bool) : l.Moves (s.windowEnded c).link :=
  (h.setView _).clearAccount.raise _ _ _ _

theorem grantEndsClaim (h : l.Moves s.link) (r : Nat) : l.Moves (s.grantEndsClaim r).link :=
  .ite h (.ite (h.endClaimWith _) (.ite (h.endClaimWith _) h))

theorem grantHeard (h : l.Moves s.link) (w : Byte) (b : List Byte) : l.Moves (s.grantHeard w b).link :=
  .ite ((((h.setAccount _).applyUnless (·.grantEndsClaim _)).applyIf returnFree).applyIf backgroundCheck) h

/-! ## Egress, but for the evacuation frames -/

theorem egressStatus (h : l.Moves s.link) : l.Moves s.egressStatus.link := .ite h.statusTrigger h

theorem egressReturn (h : l.Moves s.link) : l.Moves s.egressReturn.link := .ite h.enterReturn h

theorem enterEgress (h : l.Moves s.link) (o : EgressOrigin) (g : Station) : l.Moves (s.enterEgress o g).link :=
  ((((h.setEgress _).raise _ _ _ _).laneEgress.abortPresentation.egressReturn).barrierEgress.closeWindow _).egressStatus

theorem leaveEgress (h : l.Moves s.link) (c : LeaveCause) (g : Station) : l.Moves (s.leaveEgress c g).link :=
  ((((h.setEgress _).setBarrier _).laneEgressEnd.raise _ _ _ _).setLane _).egressStatus

theorem egressHeard (h : l.Moves s.link) (g : Station) : l.Moves (s.egressHeard g).link := .ite h (h.enterEgress _ _)

theorem egressFlagHeard (h : l.Moves s.link) (g : Station) : l.Moves (s.egressFlagHeard g).link :=
  .ite h (h.enterEgress _ _)

/-! ## Presentations and the list -/

theorem acceptPresentation (h : l.Moves s.link) (p : Presentation) : l.Moves (s.acceptPresentation p).link :=
  .ite (.ite (h.admitParty _ _ _) (h.awaitLink _)) ((h.setAdmission _).demand _)

theorem takePresent (h : l.Moves s.link) (key : TicketKey) (cls party : Byte) :
    l.Moves (s.takePresent key cls party).1.link := by
  unfold State.takePresent
  split
  · exact h
  · exact (h.setAdmission _).acceptPresentation _

theorem takeCancel (h : l.Moves s.link) (n : Byte) : l.Moves (s.takeCancel n).1.link := by
  unfold State.takeCancel
  split
  · exact h
  · split
    · split
      · exact h
      · exact h.refuse _ _
    · exact h

theorem peerTicket (h : l.Moves s.link) (g : Station) (k : TicketKey) : l.Moves (s.peerTicket g k).link := by
  unfold State.peerTicket
  split
  · exact h
  · exact .ite (h.refuse _ _) h

theorem offerTicket (h : l.Moves s.link) (k : TicketKey) (c p : Nat) (g : Station) (w : Nat) (o : ListOrigin) :
    l.Moves (s.offerTicket k c p g w o).link := by
  simpa using h

/-! ## Good frames -/

theorem frameTaken (h : l.Moves s.link) (g : Station) : l.Moves (s.frameTaken g).link := h.aside rfl rfl

theorem heardAtStation (h : l.Moves s.link) (g : Station) : l.Moves (s.heardAtStation g).link := by
  unfold State.heardAtStation
  dsimp only
  split
  · exact h
  · exact (h.setPresence _).queueKind
  · exact h
  · exact h

theorem peerHeard (h : l.Moves s.link) (g : Station) : l.Moves (s.peerHeard g).link :=
  .ite (h.setPresence _) ((h.setPresence _).raise _ _ _ _)

theorem recordStatus (h : l.Moves s.link) (g : Station) (w : Byte) (b : List Byte) :
    l.Moves (s.recordStatus g w b).link := h

theorem statusHeard (h : l.Moves s.link) (g : Station) (w : Byte) (b : List Byte) :
    l.Moves (State.statusHeard g w b s).link :=
  (ite ((h.recordStatus g w b).gateStatusHeard g w _) ((h.recordStatus g w b).applyIf (·.vesselStatusHeard w b))).applyIf
    (·.egressFlagHeard _)

theorem ticketHeard (h : l.Moves s.link) (g : Station) (w : Byte) (b : List Byte) :
    l.Moves (State.ticketHeard g w b s).link :=
  (h.peerTicket _ _).offerTicket _ _ _ _ _ _

end Link.Moves

end Sys2Proof.Machine
end

section
/-! SUPPORT. The transmit queue at every step: the evacuation frames (R20), the start of a transmission and its ends (R14 to R20), and
the commands one by one; with the proof that every step keeps the queue sound. -/

namespace Sys2Proof.Machine

/-! ## Requests of the host port -/

/-- A message is handed to the meaning of the command that it spells (R184). -/
theorem handRequest_eq (m : List Byte) (s : State) :
    handRequest m s = (requestOf m).elim (.next (s.reply (.refused .unknown))) (exec · s) := by
  unfold handRequest requestOf
  generalize natAt m 0 = code
  rcases Nat.lt_or_ge code 22 with known | unknown
  · interval_cases code <;> rfl
  · obtain ⟨n, rfl⟩ := Nat.exists_eq_add_of_le' unknown
    rfl

/-- No message spells the completion of a byte. -/
theorem requestOf_ne_byte {m : List Byte} {c : Instr} (h : requestOf m = some c) (b : Byte) :
    c ≠ .hostByteCompleted b := by
  rintro rfl
  unfold requestOf at h
  split at h <;> cases h

namespace Link.queueSound

variable {s t : State}

theorem moves (h : s.link.queueSound) (hm : s.link.Moves t.link) : t.link.queueSound := hm.queueSound h

theorem takeRequest (h : s.link.queueSound) {role : RequestRole} {body : State → State × Reply}
    (hb : (body s).1.link.queueSound) : (s.takeRequest role body).link.queueSound := by
  unfold State.takeRequest
  split
  · split
    · exact hb
    · exact h
  · exact h

theorem settleClear (h : t.link.queueSound) : (settleClear s t).link.queueSound := by simpa using h

/-! ## The evacuation frames (R177 to R181) -/

theorem queueEvacuation (h : s.link.queueSound) {k : FrameKind} (hk : k.isEvacuation = true := by rfl) :
    (s.queueEvacuation k).link.queueSound :=
  Link.queueEvacuation_queueSound h hk

theorem enterOwnEgress (h : s.link.queueSound) : s.enterOwnEgress.link.queueSound :=
  (h.moves (.enterEgress .refl _ _)).queueEvacuation

theorem inputRaised (h : s.link.queueSound) : s.inputRaised.link.queueSound := by
  unfold State.inputRaised
  split
  · exact h
  · split
    · split
      · exact (h.moves (t := s.setEgress _) .refl).queueEvacuation
      · exact h
    · exact h.enterOwnEgress

theorem egressEndHeard (h : s.link.queueSound) (g : Station) : (s.egressEndHeard g).link.queueSound := by
  unfold State.egressEndHeard
  split
  · split
    · exact h.queueEvacuation
    · exact h.moves (.leaveEgress .refl _ _)
  · exact h

theorem takeEgressEnd (h : s.link.queueSound) : s.takeEgressEnd.1.link.queueSound := by
  unfold State.takeEgressEnd
  split
  · exact h
  · split
    · exact (h.moves (.leaveEgress .refl _ _)).queueEvacuation
    · exact h

theorem startLane (h : s.link.queueSound) : s.startLane.link.queueSound :=
  h.moves (.ite ((Link.Moves.refl.setLane _).openCommand _) (.ite .refl .refl))

theorem takeStart (h : s.link.queueSound) : s.takeStart.1.link.queueSound := by
  have started {u : State} (hu : u.link.queueSound) :
      (if u.egress.input then u.enterOwnEgress else u).link.queueSound := by
    split
    · exact hu.enterOwnEgress
    · exact hu
  unfold State.takeStart
  split
  · exact started (startLane (s := ((s.setLocked _).setPresence _).setConverter _) h)
  · exact h

/-! ## The start of a transmission (R14, R21) -/

/-- A head entry that begins is SENDING, or leaves with nothing to send. -/
theorem startHead (h : s.link.queueSound) {e : TxEntry} {rest : List TxEntry} (slots : Nat)
    (hq : s.link.queue = e :: rest) (he : e.sending = false) : (s.startHead e rest slots).link.queueSound := by
  have hd : s.link.deferred = none := Link.deferred_none_of_head h hq (by simp [he])
  have sound : e.sound := h.1 e (by simp [hq])
  unfold State.startHead
  split
  · obtain ⟨attempts, ticket, mark⟩ := sound
    refine Link.queueSound_replaceHead h hq rfl hd rfl ⟨attempts, ticket, fun hr => ?_⟩
    exact ⟨rfl, (mark hr).2⟩
  · exact Link.queueSound_sublist h (by simp [hq]) (by simp [hd])

end Link.queueSound

/-! ## The ends of a transmission (R15 to R20) -/

/-- The queue is sound but for the deferred slot, whose evacuation kind may still wait there when its frame has ended. -/
def Link.soundButSlot (l : Link) : Prop :=
  ({ l with deferred := none } : Link).queueSound ∧ ∀ k, l.deferred = some k → k.isEvacuation = true

namespace Link.soundButSlot

variable {l : Link} {s t : State} {e : TxEntry} {rest : List TxEntry}

theorem moves (h : s.link.soundButSlot) (hm : s.link.Moves t.link) : t.link.soundButSlot :=
  ⟨hm.slotEmptied.queueSound h.1, fun k hk => h.2 k (hm.deferred_of_deferred hk)⟩

/-- The deferred slot is served (R20). -/
theorem serveDeferred (h : s.link.soundButSlot) : s.serveDeferred.link.queueSound := by
  obtain ⟨sound, evac⟩ := h
  simp only [State.serveDeferred, State.setLink_link, Link.takeDeferred]
  cases hd : s.link.deferred with
  | none => exact Link.queueSound_congr sound rfl hd
  | some k => exact Link.queueEvacuation_queueSound sound (evac k hd)

theorem of_queueSound (h : l.queueSound) (m : Link) (hd : m.deferred = l.deferred)
    (hm : ({ m with deferred := none } : Link).queueSound) : m.soundButSlot :=
  ⟨hm, fun k hk => (h.2.2.2.2 k (hd ▸ hk)).1⟩

/-- The head leaves. -/
theorem headRemoved (h : l.queueSound) (hq : l.queue = e :: rest) {m : Link} (hm : m.queue = rest)
    (hd : m.deferred = l.deferred) : m.soundButSlot :=
  of_queueSound h m hd (Link.queueSound_sublist h (by simp [hq, hm]) (by simp))

/-- The head stays in its place with its kind. -/
theorem headReplaced (h : l.queueSound) (hq : l.queue = e :: rest) {m : Link} {e' : TxEntry} (hm : m.queue = e' :: rest)
    (hd : m.deferred = l.deferred) (hk : e'.kind = e.kind) (he : e'.sound) : m.soundButSlot :=
  of_queueSound h m hd (Link.queueSound_replaceHead h hq hm rfl hk he)

end Link.soundButSlot

/-- A requeue mark in a sound queue is that of a plain kind (R19). -/
theorem TxEntry.sound.isPlain {e : TxEntry} (h : e.sound) (hr : e.requeue = true) : e.kind.IsPlain := (h.2.2 hr).2

namespace Link.Moves

variable {l : Link} {s : State}

theorem loseOnce {e : TxEntry} {rest : List TxEntry}
    (h : l.Moves { s.link with
      queue := { e with sending := false, attempts := e.attempts + 1, requeue := false } :: rest
      txFrame := none }) : l.Moves (s.loseOnce e rest).link := by
  unfold State.loseOnce
  dsimp only
  split
  · exact refuse h _ _
  · exact h

theorem ownerDropped (h : l.Moves s.link) (e : TxEntry) : l.Moves (s.ownerDropped e).link := by
  unfold State.ownerDropped
  split
  · exact h.refuse _ _
  · exact h.requeueGrant
  · exact h.windowEnded _
  all_goals exact h

theorem requeueMarked (h : l.Moves s.link) {e : TxEntry} (he : e.sound) : l.Moves (s.requeueMarked e).link := by
  unfold State.requeueMarked
  split
  next hr => simpa [(he.isPlain hr).2] using h.queueKind (he.isPlain hr)
  next => exact h

theorem statusCompleted (h : l.Moves s.link) (f : Frame) : l.Moves (s.statusCompleted f).link :=
  .ite (h.setAccount _).backgroundCheck h

theorem ticketCompleted (h : l.Moves s.link) (e : TxEntry) : l.Moves (s.ticketCompleted e).link := by
  unfold State.ticketCompleted
  dsimp only
  split <;> split
  · exact (h.admitParty _ _ _).offerTicket _ _ _ _ _ _
  · exact h.offerTicket _ _ _ _ _ _
  · exact h.admitParty _ _ _
  · exact h

theorem ownerCompleted (h : l.Moves s.link) (e : TxEntry) (f : Frame) : l.Moves (s.ownerCompleted e f).link := by
  unfold State.ownerCompleted
  split
  · exact h.statusCompleted f
  · exact h.grantCompleted f
  · exact h.ticketCompleted e
  · exact h.windowEnded _
  all_goals exact h

end Link.Moves

/-- What a completed transmission leaves of the queue (R18, R19). -/
theorem afterCompletion_soundButSlot {l m : Link} {e : TxEntry} {rest : List TxEntry} (h : l.queueSound)
    (hq : l.queue = e :: rest) (hm : m.queue = afterCompletion e rest) (hd : m.deferred = l.deferred) :
    m.soundButSlot := by
  have sound : e.sound := h.1 e (by simp [hq])
  have left := Link.soundButSlot.headRemoved h hq (m := { m with queue := rest }) rfl hd
  unfold afterCompletion at hm
  split at hm
  next hr =>
    have plain := sound.isPlain hr
    obtain ⟨-, ticket, -⟩ := sound
    have hnew : ∀ x ∈ rest, x.kind ≠ e.kind := by
      have kinds := h.2.1
      simp only [hq, List.map_cons, List.nodup_cons, List.mem_map, not_exists, not_and] at kinds
      exact kinds.1
    refine .of_queueSound h m hd (Link.queueSound_append left.1 hm rfl ⟨Nat.zero_le _, ticket, nofun⟩ rfl hnew plain.2)
  next => exact Link.soundButSlot.headRemoved h hq hm hd

namespace Link.queueSound

variable {s t : State}

theorem lose (h : s.link.queueSound) : s.lose.link.queueSound := by
  unfold State.lose
  split
  · exact h
  next e rest hq =>
    have sound : e.sound := h.1 e (by simp [hq])
    split
    · refine Link.soundButSlot.serveDeferred ?_
      split
      next hlt =>
        obtain ⟨-, ticket, -⟩ := sound
        exact (Link.soundButSlot.headReplaced (m := { s.link with
            queue := { e with sending := false, attempts := e.attempts + 1, requeue := false } :: rest
            txFrame := none }) h hq rfl rfl rfl ⟨hlt, ticket, nofun⟩).moves (s := s.setLink _) (.loseOnce .refl)
      · have reported : (s.dropReport e).link = s.link := by simp
        exact (Link.soundButSlot.headRemoved (m := { s.link with queue := rest, txFrame := none }) h hq rfl rfl).moves
          (s := (s.dropReport e).setLink _) (reported ▸ (Link.Moves.refl.ownerDropped e).requeueMarked sound)
    · exact h

/-! ## Good frames and the host port -/

theorem heard (h : s.link.queueSound) (g : Station) (passes : Bool) {deliver : State → State}
    (hd : ∀ t, t.link.queueSound → (deliver t).link.queueSound) : (s.heard g passes deliver).link.queueSound := by
  have taken : s.link.Moves (s.frameTaken g).link := Link.Moves.refl.frameTaken g
  have told := h.moves ((taken.heardAtStation g).peerHeard g)
  unfold State.heard
  dsimp only
  split
  · exact h
  · split
    · split
      · exact hd _ told
      · exact told
    · exact h.moves taken

/-- A frame heard whose owner makes moves alone. -/
theorem heardMoves (h : s.link.queueSound) (g : Station) (passes : Bool) {deliver : State → State}
    (hd : ∀ t : State, t.link.Moves (deliver t).link) : (s.heard g passes deliver).link.queueSound :=
  h.heard g passes fun t ht => ht.moves (hd t)

theorem takeRequestMoves (h : s.link.queueSound) {role : RequestRole} {body : State → State × Reply}
    (hb : s.link.Moves (body s).1.link) : (s.takeRequest role body).link.queueSound :=
  h.takeRequest (h.moves hb)

end Link.queueSound

/-! ## The commands -/

/-- A command answers a state with a sound transmit queue. -/
def SoundAfter (o : Host.Outcome State Fault Refusal) : Prop := ∃ t, o = .next t ∧ t.link.queueSound

theorem SoundAfter.of_moves {s u : State} (h : s.link.queueSound) (hm : s.link.Moves u.link) : SoundAfter (.next u) :=
  ⟨u, rfl, h.moves hm⟩

section

variable {s : State}

open Link.Moves

/-! ### The link controller -/

theorem execOwnFrameComplete_soundAfter (h : s.link.queueSound) : SoundAfter (execOwnFrameComplete s) := by
  refine ⟨_, rfl, ?_⟩
  split
  · exact h
  next e rest hq =>
    split
    · refine Link.queueSound.settleClear (Link.soundButSlot.serveDeferred ?_)
      exact (afterCompletion_soundButSlot (m := { s.link.hunting with
          queue := afterCompletion e rest, txFrame := none, lastSender := s.presence.number }) h hq rfl rfl).moves
        (s := s.setLink _) (refl.ownerCompleted e _)
    · exact h

theorem execTransmitStart_soundAfter (h : s.link.queueSound) (slots : Nat) : SoundAfter (execTransmitStart slots s) := by
  refine ⟨_, rfl, ?_⟩
  split
  · exact h
  next e rest hq =>
    split
    next hc => exact h.startHead slots hq (by simpa using hc.2)
    next => exact h

theorem execReadbackFault_soundAfter (h : s.link.queueSound) : SoundAfter (execReadbackFault s) := by
  refine ⟨_, rfl, ?_⟩
  split
  · exact h
  · split
    · have hunting : (s.setLink s.link.hunting).link.queueSound := Link.queueSound_congr h rfl rfl
      exact hunting.lose.settleClear
    · exact h

theorem execSelftest_soundAfter (h : s.link.queueSound) : SoundAfter (execSelftest s) :=
  .of_moves h (.ite (.ite (refl.setLink _) (refl.setPort _)) refl)

theorem execSelftestEnd_soundAfter (h : s.link.queueSound) (received : List Bool) :
    SoundAfter (execSelftestEnd received s) :=
  .of_moves h (.ite (refl.setLink _) refl)

/-! ### The host port -/

theorem execHostSessionEnd_soundAfter (h : s.link.queueSound) (straps : Station) :
    SoundAfter (execHostSessionEnd straps s) := by
  refine ⟨_, rfl, ?_⟩
  dsimp only
  split
  · split
    · split
      · exact Link.queueSound_empty rfl rfl
      · exact h
    · split <;> exact h
  · exact h

theorem execConfigure_soundAfter (h : s.link.queueSound) (payload : List Byte) : SoundAfter (execConfigure payload s) := by
  refine ⟨_, rfl, h.takeRequest ?_⟩
  unfold State.takeConfigure
  split
  · exact h
  · split
    · exact h
    · split <;> exact h

theorem execLookup_soundAfter (h : s.link.queueSound) (key : TicketKey) : SoundAfter (execLookup key s) := by
  refine ⟨_, rfl, h.takeRequest ?_⟩
  unfold State.takeLookup
  dsimp only
  split <;> exact h

theorem execQuery_soundAfter (h : s.link.queueSound) (page : Byte) : SoundAfter (execQuery page s) := by
  have read : (State.takeQuery page s).1 = s := by
    unfold State.takeQuery
    dsimp only
    split
    case h_6 | h_7 => split <;> rfl
    all_goals rfl
  exact ⟨_, rfl, h.takeRequest (by rwa [read])⟩

theorem execReadEvent_soundAfter (h : s.link.queueSound) : SoundAfter (execReadEvent s) := by
  refine ⟨_, rfl, h.takeRequest ?_⟩
  unfold State.takeReadEvent
  split <;> exact h

theorem execPeekEvent_soundAfter (h : s.link.queueSound) : SoundAfter (execPeekEvent s) := by
  refine ⟨_, rfl, h.takeRequest ?_⟩
  unfold State.takePeekEvent
  split <;> exact h

theorem execSetMask_soundAfter (h : s.link.queueSound) (mask : Byte) : SoundAfter (execSetMask mask s) := by
  refine ⟨_, rfl, h.takeRequest ?_⟩
  unfold State.takeSetMask
  split <;> exact h

theorem execRequestFailsMessageCheck_soundAfter (h : s.link.queueSound) (m : List Byte) :
    SoundAfter (execRequestFailsMessageCheck m s) := by
  refine ⟨_, rfl, ?_⟩
  split
  · split <;> exact h
  · exact h

/-! ### Presence, the account and the lane -/

theorem execListenTimerExpiry_soundAfter (h : s.link.queueSound) : SoundAfter (execListenTimerExpiry s) :=
  .of_moves h (.ite (((refl.setLink _).setPresence _).raise _ _ _ _).queueKind refl)

theorem execSilenceTimerExpiry_soundAfter (h : s.link.queueSound) (peer : Station) :
    SoundAfter (execSilenceTimerExpiry peer s) :=
  .of_moves h (.ite (((refl.setPresence _).raise _ _ _ _).applyIf viewOrphan).settleClear refl)

theorem execKeptDemandStart_soundAfter (h : s.link.queueSound) : SoundAfter (execKeptDemandStart s) := by
  refine .of_moves h ?_
  split
  · exact .ite ((refl.setAccount _).demand _) refl
  · exact refl

theorem execClearTimerExpiry_soundAfter (h : s.link.queueSound) : SoundAfter (execClearTimerExpiry s) :=
  .of_moves h (.ite (refl.setLane _).closeCommand.settleClear refl)

theorem execTrackerArm_soundAfter (h : s.link.queueSound) : SoundAfter (execTrackerArm s) :=
  .of_moves h (.ite ((refl.setLane _).applyIf closeCommand).settleClear refl)

/-! ### The converter and the barrier driver -/

theorem execZeroPhaseEnd_soundAfter (h : s.link.queueSound) (offset : Int) : SoundAfter (execZeroPhaseEnd offset s) := by
  refine .of_moves h ?_
  split
  · exact refl
  · exact .ite (refl.setConverter _) (refl.badConversion _ _).settleClear

theorem execIntegratePhaseEnd_soundAfter (h : s.link.queueSound) : SoundAfter (execIntegratePhaseEnd s) := by
  refine .of_moves h ?_
  split <;> exact refl

theorem execRundownCrossing_soundAfter (h : s.link.queueSound) (r : Nat) : SoundAfter (execRundownCrossing r s) := by
  refine .of_moves h ?_
  split
  · exact refl
  · exact .ite (refl.goodConversion _ _).settleClear refl

theorem execRundownOverrange_soundAfter (h : s.link.queueSound) : SoundAfter (execRundownOverrange s) := by
  refine .of_moves h ?_
  split
  · exact refl
  · exact (refl.badConversion _ _).settleClear

theorem execEndSwitchInactive_soundAfter (h : s.link.queueSound) (e : EndId) :
    SoundAfter (execEndSwitchInactive e s) :=
  .of_moves h (.ite (.ite (((refl.setBarrier _).setBarrier _).raise _ _ _ _) (refl.setBarrier _)) refl)

theorem execEgressInputActive_soundAfter (h : s.link.queueSound) : SoundAfter (execEgressInputActive s) := by
  refine ⟨_, rfl, ?_⟩
  split
  · exact h
  · have raised : (s.setEgress { s.egress with input := true }).link.queueSound := h
    exact raised.inputRaised.settleClear

/-- Every command but a byte of the host port keeps the transmit queue sound. -/
theorem exec_soundAfter_of_ne_byte (c : Instr) (hc : ∀ b, c ≠ .hostByteCompleted b) (h : s.link.queueSound) :
    SoundAfter (exec c s) := by
  cases c with
  | fullReset straps => exact ⟨_, rfl, Link.queueSound_empty rfl rfl⟩
  | hostSessionEnd straps => exact execHostSessionEnd_soundAfter h straps
  | replyReady => exact .of_moves h (.ite (refl.setPort _) refl)
  | identify => exact ⟨_, rfl, h.takeRequest h⟩
  | configure payload => exact execConfigure_soundAfter h payload
  | selftest => exact execSelftest_soundAfter h
  | selftestEnd received => exact execSelftestEnd_soundAfter h received
  | start => exact ⟨_, rfl, (h.takeRequest h.takeStart).settleClear⟩
  | reset => exact ⟨_, rfl, h.takeRequest h⟩
  | lookup key => exact execLookup_soundAfter h key
  | query page => exact execQuery_soundAfter h page
  | readEvent => exact execReadEvent_soundAfter h
  | peekEvent => exact execPeekEvent_soundAfter h
  | setMask mask => exact execSetMask_soundAfter h mask
  | laneRestart => exact ⟨_, rfl, (h.takeRequestMoves refl.restartLane).settleClear⟩
  | clearFault => exact ⟨_, rfl, (h.takeRequestMoves refl.clearFaults).settleClear⟩
  | egressEnd => exact ⟨_, rfl, (h.takeRequest h.takeEgressEnd).settleClear⟩
  | present key cls party => exact ⟨_, rfl, (h.takeRequestMoves (refl.takePresent key cls party)).settleClear⟩
  | cancel number => exact ⟨_, rfl, (h.takeRequestMoves (refl.takeCancel number)).settleClear⟩
  | hold => exact ⟨_, rfl, (h.takeRequestMoves refl.takeHold).settleClear⟩
  | release => exact ⟨_, rfl, h.takeRequestMoves refl.takeRelease⟩
  | openWindow => exact ⟨_, rfl, (h.takeRequestMoves refl.takeOpenWindow).settleClear⟩
  | closeWindow => exact ⟨_, rfl, h.takeRequestMoves refl.takeCloseWindow⟩
  | setOnboard count => exact ⟨_, rfl, h.takeRequestMoves (refl.takeSetOnboard count)⟩
  | setLaneMode mode => exact ⟨_, rfl, (h.takeRequestMoves (refl.takeLaneMode mode)).settleClear⟩
  | lineIdle => exact .of_moves h (.ite refl (refl.setLink _))
  | lineBusy => exact .of_moves h (refl.setLink _)
  | openingFlagFound => exact .of_moves h (.ite (refl.setLink _) refl)
  | frameAbortHeard => exact .of_moves h (.ite refl (refl.setLink _))
  | badFrame content => exact .of_moves h (.ite refl (refl.setLink _))
  | transmitStart slots => exact execTransmitStart_soundAfter h slots
  | lostArbitration => exact ⟨_, rfl, h.lose.settleClear⟩
  | readbackFault => exact execReadbackFault_soundAfter h
  | ownFrameComplete => exact execOwnFrameComplete_soundAfter h
  | unknownKindFrame g k w b =>
    refine ⟨_, rfl, ?_⟩
    split
    · exact h.heardMoves g false fun _ => refl
    · exact h
  | statusFrame g w b => exact ⟨_, rfl, (h.heardMoves g _ fun _ => refl.statusHeard g w b).settleClear⟩
  | offerFrame g w b => exact ⟨_, rfl, (h.heardMoves g _ fun _ => refl.applyIf (·.openShown _ _)).settleClear⟩
  | closeFrame g w b => exact ⟨_, rfl, (h.heardMoves g _ fun _ => refl.applyIf (·.closeHeard w)).settleClear⟩
  | claimFrame g w b => exact ⟨_, rfl, h.heardMoves g _ fun _ => refl.applyIf (·.claimHeard g w _)⟩
  | grantFrame g w b => exact ⟨_, rfl, (h.heardMoves g _ fun _ => refl.applyIf (·.grantHeard w b)).settleClear⟩
  | ticketFrame g w b => exact ⟨_, rfl, (h.heardMoves g _ fun _ => refl.ticketHeard g w b).settleClear⟩
  | tallyFrame g w b => exact ⟨_, rfl, h.heardMoves g _ fun _ => refl.applyIf (·.tallyHeard g w _)⟩
  | egressFrame g w b => exact ⟨_, rfl, (h.heardMoves g _ fun _ => refl.egressHeard g).settleClear⟩
  | egressEndFrame g w b => exact ⟨_, rfl, (h.heard g _ fun _ ht => ht.egressEndHeard g).settleClear⟩
  | listenTimerExpiry => exact execListenTimerExpiry_soundAfter h
  | isolationTimerExpiry => exact .of_moves h (.ite (((refl.setPresence _).raise _ _ _ _).closeWindow _) refl)
  | rollTimerExpiry => exact .of_moves h (.ite (refl.setPresence _).queueKind.backgroundCheck refl)
  | silenceTimerExpiry peer => exact execSilenceTimerExpiry_soundAfter h peer
  | tallyTimerExpiry => exact .of_moves h (.ite (refl.completeWindow _) refl)
  | orphanTimerExpiry => exact .of_moves h (.ite refl.abandon.settleClear refl)
  | keptDemandStart => exact execKeptDemandStart_soundAfter h
  | claimRepeatTimerExpiry => exact .of_moves h (.ite (refl.setAccount _).queueKind refl)
  | claimWaitTimerExpiry => exact .of_moves h (.ite (refl.endClaimWith _).settleClear refl)
  | listSecondTimerExpiry => exact .of_moves h (.ite refl refl)
  | passageWaitExpiry => exact .of_moves h (.ite (refl.refund _).settleClear refl)
  | clearTimerExpiry => exact execClearTimerExpiry_soundAfter h
  | trackerArm => exact execTrackerArm_soundAfter h
  | loiterTimerExpiry p => exact .of_moves h (.ite ((refl.setLane _).raise _ _ _ _) refl)
  | zeroPhaseEnd offset => exact execZeroPhaseEnd_soundAfter h offset
  | integratePhaseEnd => exact execIntegratePhaseEnd_soundAfter h
  | rundownCrossing r => exact execRundownCrossing_soundAfter h r
  | rundownOverrange => exact execRundownOverrange_soundAfter h
  | endSwitchActive e => exact .of_moves h (.ite refl ((refl.setBarrier _).switchActive e).settleClear)
  | endSwitchInactive e => exact execEndSwitchInactive_soundAfter h e
  | stall => exact .of_moves h (.ite (.settleClear (.ite refl.obstruction refl.stallByMode)) refl)
  | brakeTimerExpiry => exact .of_moves h (.ite (refl.setBarrier _) refl)
  | travelTimerExpiry => exact .of_moves h (.ite (refl.setBarrier _).travelByMode.settleClear refl)
  | pauseTimerExpiry => exact .of_moves h (.ite (refl.setBarrier _).endPause.settleClear refl)
  | pendingCloseTaken => exact .of_moves h (.ite refl.commandTaken.beginClose.settleClear refl)
  | reDriveStart => exact .of_moves h (.ite (.settleClear (refl.setBarrier _)) refl)
  | egressInputActive => exact execEgressInputActive_soundAfter h
  | egressInputInactive => exact .of_moves h (refl.setEgress _)
  | hselAsserted => exact .of_moves h (.ite refl (refl.setPort _))
  | hostByteCompleted b => exact absurd rfl (hc b)
  | requestFailsMessageCheck m => exact execRequestFailsMessageCheck_soundAfter h m
  | millisecondCountAdvance => exact .of_moves h refl

theorem handRequest_soundAfter (h : s.link.queueSound) (m : List Byte) : SoundAfter (handRequest m s) := by
  rw [handRequest_eq]
  cases hr : requestOf m with
  | none => exact .of_moves h (refl.setPort _)
  | some c => exact exec_soundAfter_of_ne_byte c (requestOf_ne_byte hr) h

theorem receiveByte_soundAfter (h : s.link.queueSound) (b : Byte) : SoundAfter (s.receiveByte b) := by
  unfold State.receiveByte
  dsimp only
  split
  · split
    · exact .of_moves h ((refl.setPort _).setPort _)
    · exact handRequest_soundAfter (by exact h) _
  · exact .of_moves h (refl.setPort _)

theorem execHostByteCompleted_soundAfter (h : s.link.queueSound) (b : Byte) :
    SoundAfter (execHostByteCompleted b s) := by
  unfold execHostByteCompleted
  split
  · split
    · exact receiveByte_soundAfter h b
    · exact receiveByte_soundAfter h b
    · exact .of_moves h (refl.setPort _)
    · exact .of_moves h (refl.setPort _)
  · exact .of_moves h refl

theorem exec_soundAfter (c : Instr) (h : s.link.queueSound) : SoundAfter (exec c s) := by
  cases c with
  | hostByteCompleted b => exact execHostByteCompleted_soundAfter h b
  | _ => exact exec_soundAfter_of_ne_byte _ (by simp) h

end

/-- Settles O9: with nothing waiting the state stays; the front command keeps the queue sound, and taking it from the queue of
commands leaves the link controller alone. -/
theorem transmitQueueStaysSound : Obligations.TransmitQueueStaysSound := by
  intro s t h hstep
  unfold step at hstep
  split at hstep
  · cases hstep
    exact h
  next c rest _ =>
    obtain ⟨u, hu, sound⟩ := exec_soundAfter (s := s.setPending rest) c h
    cases hu.symm.trans hstep
    exact sound

end Sys2Proof.Machine
end

section
/-! SUPPORT. What each operation makes of the transmit queue (R19, R20, R22), one equation per case. -/

namespace Sys2Proof.Machine

variable {l : Link} {k : FrameKind} {e : TxEntry} {before after : List TxEntry}

theorem any_sendingEvacuation_eq_false {q : List TxEntry} :
    (q.any fun e => e.kind.isEvacuation && e.sending) = false ↔
      ∀ e ∈ q, e.kind.isEvacuation = true → e.sending = false := by
  simp

/-- A map that changes entries of one kind alone changes nothing where that kind is absent. -/
theorem map_kindAbsent {f : TxEntry → TxEntry} {q : List TxEntry} (hf : ∀ x, x.kind ≠ k → f x = x)
    (hq : ∀ x ∈ q, x.kind ≠ k) : q.map f = q :=
  (List.map_congr_left fun x hx => hf x (hq x hx)).trans q.map_id

/-- A map that changes entries of one kind alone changes the one entry of that kind. -/
theorem map_kindOnce {f : TxEntry → TxEntry} (hf : ∀ x, x.kind ≠ k → f x = x) (hn : ∀ x ∈ before ++ after, x.kind ≠ k) :
    (before ++ e :: after).map f = before ++ f e :: after := by
  rw [List.map_append, List.map_cons, map_kindAbsent hf fun x hx => hn x (List.mem_append_left _ hx),
    map_kindAbsent hf fun x hx => hn x (List.mem_append_right _ hx)]

/-! ## Queuing -/

theorem Link.queueKind_of_absent (hn : ∀ e ∈ l.queue, e.kind ≠ k) :
    l.queueKind k = { l with queue := l.queue ++ [TxEntry.fresh k] } := by
  unfold Link.queueKind
  rw [any_kind_eq_false.2 hn]
  rfl

theorem Link.queueKind_of_present (hq : l.queue = before ++ e :: after) (he : e.kind = k)
    (hn : ∀ x ∈ before ++ after, x.kind ≠ k) :
    l.queueKind k = if e.sending then { l with queue := before ++ { e with requeue := true } :: after } else l := by
  have present : (l.queue.any fun e => e.kind == k) = true := by simp [hq, he]
  have marked := map_kindOnce (e := e) (f := fun e => if e.kind == k && e.sending then { e with requeue := true } else e)
    (fun x hx => by simp [hx]) hn
  unfold Link.queueKind
  rw [present, hq, marked]
  cases hs : e.sending
  · simp [← hq]
  · simp [he]

theorem Link.queueTicket_of_absent (c : TicketContents) (hn : ∀ e ∈ l.queue, e.kind ≠ .ticket) :
    l.queueTicket c = { l with queue := l.queue ++ [{ TxEntry.fresh .ticket with ticket := some c }] } := by
  unfold Link.queueTicket
  rw [any_kind_eq_false.2 hn]
  rfl

theorem Link.queueTicket_of_present (c : TicketContents) (h : ∃ e ∈ l.queue, e.kind = .ticket) : l.queueTicket c = l := by
  have present : (l.queue.any fun e => e.kind == .ticket) = true := by simpa using h
  rw [Link.queueTicket, present]
  rfl

theorem Link.withdraw_of_present (hq : l.queue = before ++ e :: after) (he : e.kind = k)
    (hn : ∀ x ∈ before ++ after, x.kind ≠ k) :
    l.withdraw k =
      { l with
        queue := if e.sending then before ++ { e with requeue := false } :: after else before ++ after
        deferred := if l.deferred = some k then none else l.deferred } := by
  have others (q : List TxEntry) (h : ∀ x ∈ q, x.kind ≠ k) : (q.filter fun x => !(x.kind == k && !x.sending)) = q :=
    List.filter_eq_self.2 fun x hx => by simp [h x hx]
  have left : (l.queue.filter fun x => !(x.kind == k && !x.sending)) =
      before ++ (if e.sending then [e] else []) ++ after := by
    rw [hq, List.filter_append, List.filter_cons, others before fun x hx => hn x (List.mem_append_left _ hx),
      others after fun x hx => hn x (List.mem_append_right _ hx)]
    cases hs : e.sending <;> simp [he]
  have clears : ∀ x : TxEntry, x.kind ≠ k → (if x.kind == k then { x with requeue := false } else x) = x :=
    fun x hx => by simp [hx]
  unfold Link.withdraw
  rw [left]
  cases hs : e.sending
  · simpa using map_kindAbsent clears hn
  · simpa [he, hs] using map_kindOnce (e := e) clears hn

/-! ## The evacuation frames -/

theorem Link.queueEvacuation_of_sending {x : TxEntry} (hx : x ∈ l.queue) (hv : x.kind.isEvacuation = true)
    (hs : x.sending = true) : l.queueEvacuation k = { l with deferred := some k } := by
  have sending : (l.queue.any fun e => e.kind.isEvacuation && e.sending) = true :=
    List.any_eq_true.2 ⟨x, hx, by simp [hv, hs]⟩
  rw [Link.queueEvacuation, sending]
  rfl

theorem Link.queueEvacuation_of_waiting (hw : ∀ x ∈ l.queue, x.kind.isEvacuation = true → x.sending = false)
    (h : ∃ x ∈ l.queue, x.kind = k) : l.queueEvacuation k = l := by
  have present : (l.queue.any fun e => e.kind == k) = true := by simpa using h
  rw [Link.queueEvacuation, any_sendingEvacuation_eq_false.2 hw, present]
  rfl

theorem Link.queueEvacuation_of_absent (hw : ∀ x ∈ l.queue, x.kind.isEvacuation = true → x.sending = false)
    (hn : ∀ x ∈ l.queue, x.kind ≠ k) :
    l.queueEvacuation k =
      { l with queue := placeAtHead (TxEntry.fresh k) (l.queue.filter fun x => !x.kind.isEvacuation) } := by
  rw [Link.queueEvacuation, any_sendingEvacuation_eq_false.2 hw, any_kind_eq_false.2 hn]
  rfl

/-- Settles O18, one equation per case of the operation. -/
theorem transmitQueueOperations : Obligations.TransmitQueueOperations := by
  refine ⟨?_, ?_, ?_, ?_, ?_, ?_, ?_⟩
  · intro l k _ _ hn
    exact Link.queueKind_of_absent hn
  · intro l k before after e _ _ hq he hn
    exact Link.queueKind_of_present hq he hn
  · intro l c
    exact ⟨Link.queueTicket_of_absent c, Link.queueTicket_of_present c⟩
  · intro l k before after e hq he hn
    exact Link.withdraw_of_present hq he hn
  · intro l k _ hw hn others
    rw [Link.queueEvacuation_of_absent hw hn]
    change { l with queue := placeAtHead (TxEntry.fresh k) others } = _
    cases others <;> rfl
  · intro l k x _ hx hv hs
    exact Link.queueEvacuation_of_sending hx hv hs
  · intro l k _ hw h
    exact Link.queueEvacuation_of_waiting hw h

end Sys2Proof.Machine
end

section
/-! SUPPORT. The fields of frame bodies read back (R4, R8 to R10): one byte, one two-byte field and one ticket key at an offset. -/

namespace Sys2Proof.Machine

/-! ## Bytes and two-byte fields at an offset -/

theorem word_hi_lo (w : Word16) : (w.extractLsb' 8 8).toNat * 256 + (w.extractLsb' 0 8).toNat = w.toNat := by
  have := w.isLt
  simp only [BitVec.extractLsb'_toNat, Nat.shiftRight_eq_div_pow]
  omega

theorem word16_toNat {n : Nat} (h : n ≤ 65535) : (word16 n).toNat = n := by
  simp only [word16, h, if_true, BitVec.toNat_ofNat]
  omega

theorem byteOf_toNat {n : Nat} (h : n ≤ 255) : (byteOf n).toNat = n := by
  simp only [byteOf, BitVec.toNat_ofNat]
  omega

@[simp] theorem byteAt_cons_zero (b : Byte) (body : List Byte) : byteAt (b :: body) 0 = b := rfl

@[simp] theorem byteAt_cons_succ (b : Byte) (body : List Byte) (i : Nat) : byteAt (b :: body) (i + 1) = byteAt body i := rfl

@[simp] theorem natAt_cons_zero (b : Byte) (body : List Byte) : natAt (b :: body) 0 = b.toNat := rfl

@[simp] theorem natAt_cons_succ (b : Byte) (body : List Byte) (i : Nat) : natAt (b :: body) (i + 1) = natAt body i := rfl

@[simp] theorem wordAt_cons_succ (b : Byte) (body : List Byte) (i : Nat) : wordAt (b :: body) (i + 1) = wordAt body i := rfl

@[simp] theorem countBytes_length (n : Nat) : (countBytes n).length = 2 := rfl

@[simp] theorem natAt_countBytes_add_two (n : Nat) (body : List Byte) (i : Nat) :
    natAt (countBytes n ++ body) (i + 2) = natAt body i := rfl

@[simp] theorem wordAt_countBytes_add_two (n : Nat) (body : List Byte) (i : Nat) :
    wordAt (countBytes n ++ body) (i + 2) = wordAt body i := rfl

theorem wordAt_countBytes_append {n : Nat} (h : n ≤ 65535) (body : List Byte) : wordAt (countBytes n ++ body) 0 = n :=
  (word_hi_lo (word16 n)).trans (word16_toNat h)

theorem wordAt_countBytes {n : Nat} (h : n ≤ 65535) : wordAt (countBytes n) 0 = n :=
  (word_hi_lo (word16 n)).trans (word16_toNat h)

theorem keyAt_keyBytes (k : TicketKey) (body : List Byte) : keyAt (keyBytes k ++ body) 0 = k := by
  change k.extractLsb' 24 8 ++ k.extractLsb' 16 8 ++ k.extractLsb' 8 8 ++ k.extractLsb' 0 8 = k
  refine BitVec.eq_of_getLsbD_eq fun i hi => ?_
  simp only [BitVec.getLsbD_append, BitVec.getLsbD_extractLsb']
  grind

/-! ## The codes in a STATUS -/

theorem LaneState.code_le (x : LaneState) : x.code ≤ 255 := by cases x <;> decide

/-- The flags byte of a gate's STATUS has the egress flag in bit 0 (R8). -/
theorem gateFlags_bit0 (a : Bool) (p : Prop) [Decidable p] :
    (byteOf ((if a then 1 else 0) + if p then 2 else 0)).getLsbD 0 = a := by
  cases a <;> by_cases hp : p <;> simp only [hp, if_true, if_false] <;> decide

/-- The flags byte of a gate's STATUS has the view flag in bit 1 (R8). -/
theorem gateFlags_bit1 (a : Bool) (p : Prop) [Decidable p] :
    (byteOf ((if a then 1 else 0) + if p then 2 else 0)).getLsbD 1 = decide p := by
  cases a <;> by_cases hp : p <;> simp only [hp, if_true, if_false] <;> decide

theorem flagByte_bit0 (a : Bool) : (flagByte a).getLsbD 0 = a := by cases a <;> decide

/-! ## STATUS and TALLY -/

theorem State.gateStatus_readBack (s : State) (hg : s.account.granted ≤ 65535) (hr : s.account.returned ≤ 65535)
    (hp : s.lane.paid ≤ 65535) (hu : s.lane.unpaid ≤ 65535) (hx : s.lane.excess ≤ 65535) (hh : s.held ≤ 65535) :
    let body := s.gateStatus.2
    s.gateStatus.1 = BitVec.ofNat 8 s.view.number ∧ body.length = 14 ∧ natAt body 0 = s.lane.state.code ∧
      statusEgressFlag body = s.inEgress ∧ statusViewFlag body = (s.view.state == .opened) ∧
      GateStatus.ofBody body = ⟨s.account.granted, s.account.returned, s.lane.paid, s.lane.unpaid, s.lane.excess⟩ ∧
      wordAt body 12 = s.held := by
  refine ⟨rfl, ?_, ?_, ?_, ?_, ?_, ?_⟩
  · simp [State.gateStatus]
  · exact byteOf_toNat s.lane.state.code_le
  · exact gateFlags_bit0 _ _
  · exact (gateFlags_bit1 _ _).trans (by simp [BEq.beq])
  · simp [State.gateStatus, GateStatus.ofBody, wordAt_countBytes_append, *]
  · simp [State.gateStatus, wordAt_countBytes, *]

theorem State.tallyBody_readBack (s : State) (hg : s.account.granted ≤ 65535) (hr : s.account.returned ≤ 65535)
    (hp : s.lane.paid ≤ 65535) (hu : s.lane.unpaid ≤ 65535) (hx : s.lane.excess ≤ 65535) :
    GateStatus.ofTally s.tallyBody =
        ⟨s.account.granted, s.account.returned, s.lane.paid, s.lane.unpaid, s.lane.excess⟩ ∧
      s.tallyBody.length = 10 := by
  constructor
  · simp [State.tallyBody, GateStatus.ofTally, wordAt_countBytes_append, wordAt_countBytes, *]
  · simp [State.tallyBody]

theorem State.vesselStatus_readBack (s : State) (h : s.vessel.state ≠ .none) (ho : s.vessel.offer ≤ 65535)
    (hr : s.vessel.remainder ≤ 65535) (hn : s.vessel.onboard ≤ 65535) :
    let body := s.vesselStatus.2
    s.vesselStatus.1 = BitVec.ofNat 8 s.vessel.number ∧ body.length = 9 ∧
      natAt body 0 = (if s.vessel.state = .opened then 1 else 2) ∧ statusEgressFlag body = s.inEgress ∧
      wordAt body 2 = s.vessel.offer ∧ wordAt body 4 = s.vessel.remainder ∧ wordAt body 6 = s.vessel.onboard ∧
      natAt body 8 = (if s.lane.mode = .flow then 0 else 1) := by
  simp only [State.vesselStatus, h, if_false]
  refine ⟨rfl, by simp, ?_, flagByte_bit0 _, ?_, ?_, ?_, ?_⟩
  · cases hs : s.vessel.state
    · exact absurd hs h
    · rfl
    · rfl
  · simp [wordAt_countBytes_append, *]
  · simp [wordAt_countBytes_append, *]
  · simp [wordAt_countBytes_append, *]
  · cases s.lane.mode <;> simp [LaneMode.code, byteOf]

theorem State.vesselStatus_readBack_none (s : State) (h : s.vessel.state = .none) (hn : s.vessel.onboard ≤ 65535) :
    let body := s.vesselStatus.2
    s.vesselStatus.1 = 0 ∧ body.length = 9 ∧ natAt body 0 = 0 ∧ statusEgressFlag body = s.inEgress ∧
      wordAt body 2 = 0 ∧ wordAt body 4 = 0 ∧ wordAt body 6 = s.vessel.onboard ∧
      natAt body 8 = (if s.lane.mode = .flow then 0 else 1) := by
  simp only [State.vesselStatus, h, if_true]
  refine ⟨rfl, by simp, rfl, flagByte_bit0 _, ?_, ?_, ?_, ?_⟩
  · simp [wordAt_countBytes_append]
  · simp [wordAt_countBytes_append]
  · simp [wordAt_countBytes_append, *]
  · cases s.lane.mode <;> simp [LaneMode.code, byteOf]

/-! ## GRANT and TICKET -/

theorem grantBody_cons_length (r : Nat) (pairs : List (Nat × Nat)) :
    (grantBody r pairs).length = 2 + 3 * pairs.length := by
  induction pairs with
  | nil => rfl
  | cons p pairs ih => simp_all [grantBody]; omega

theorem grantBody_readBack (r : Nat) (pairs : List (Nat × Nat)) (hr : r ≤ 65535) (hl : pairs.length ≤ 4)
    (hp : ∀ p ∈ pairs, p.1 ≤ 15 ∧ p.2 ≤ 65535) :
    wordAt (grantBody r pairs) 0 = r ∧ grantPairs (grantBody r pairs) = pairs := by
  refine ⟨wordAt_countBytes_append hr _, ?_⟩
  unfold grantPairs
  rw [grantBody_cons_length]
  unfold grantBody
  have byte {n : Nat} (h : n ≤ 15) : (byteOf n).toNat = n := byteOf_toNat (by omega)
  match pairs, hl, hp with
  | [], _, _ => rfl
  | [p], _, hp => simp [wordAt_countBytes, *]
  | [p, q], _, hp => simp [wordAt_countBytes_append, wordAt_countBytes, *]
  | [p, q, u], _, hp => simp [wordAt_countBytes_append, wordAt_countBytes, *]
  | [p, q, u, v], _, hp => simp [wordAt_countBytes_append, wordAt_countBytes, *]

theorem TicketContents.body_readBack (t : TicketContents) (hc : t.cls ≤ 255) (hp : t.party ≤ 255) :
    t.body.length = 6 ∧ keyAt t.body 0 = t.key ∧ natAt t.body 4 = t.cls ∧ natAt t.body 5 = t.party :=
  ⟨rfl, keyAt_keyBytes _ _, byteOf_toNat hc, byteOf_toNat hp⟩

/-- Settles O16, body by body. -/
theorem frameBodiesReadBack : Obligations.FrameBodiesReadBack := by
  refine ⟨?_, State.vesselStatus_readBack, State.vesselStatus_readBack_none, ?_, TicketContents.body_readBack⟩
  · intro s hg hr hp hu hx hh body
    obtain ⟨window, size, lane, egress, view, fields, held⟩ := s.gateStatus_readBack hg hr hp hu hx hh
    exact ⟨window, size, lane, egress, view, fields, held, s.tallyBody_readBack hg hr hp hu hx⟩
  · intro r pairs hr hl hp
    exact ⟨grantBody_cons_length r pairs, grantBody_readBack r pairs hr hl hp⟩

end Sys2Proof.Machine
end

section
/-! SUPPORT. Frames on the line (R2 to R5): bytes as bits and back, the deframer on stuffed bits, and the four checks of a good frame. -/

namespace Sys2Proof.Machine

/-! ## Bytes as bits -/

theorem byteBits_length (b : Byte) : (byteBits b).length = 8 := by simp [byteBits]

theorem bytesBits_cons (b : Byte) (bs : List Byte) : bytesBits (b :: bs) = byteBits b ++ bytesBits bs := rfl

theorem bytesBits_length (bs : List Byte) : (bytesBits bs).length = 8 * bs.length := by
  induction bs with
  | nil => rfl
  | cons b bs ih => rw [bytesBits_cons, List.length_append, byteBits_length, ih, List.length_cons]; omega

theorem bitsByte_byteBits (b : Byte) : bitsByte (byteBits b) = b := by
  revert b; decide

theorem takeBytes_bytesBits (bs : List Byte) : takeBytes bs.length (bytesBits bs) = bs := by
  induction bs with
  | nil => rfl
  | cons b bs ih =>
    rw [bytesBits_cons, List.length_cons, takeBytes, List.take_left' (byteBits_length b),
      List.drop_left' (byteBits_length b), bitsByte_byteBits, ih]

/-- The bytes of a content are those it was made of. -/
theorem contentBytes_bytesBits (bs : List Byte) : contentBytes (bytesBits bs) = bs := by
  rw [contentBytes, bytesBits_length, Nat.mul_div_cancel_left _ (by decide), takeBytes_bytesBits]

/-! ## Deframing (R3) -/

theorem deframe_cons_none {d d' : Deframer} {bit : Bool} (h : d.step bit = (d', none)) (rest : List Bool) :
    deframe d (bit :: rest) = deframe d' rest := by
  rw [deframe, h]

theorem deframe_openingFlag (rest : List Bool) :
    deframe (.hunting none) (flagBits ++ rest) = deframe (.framing [] 0 false) rest := by
  simp [flagBits, deframe, Deframer.step]

/-- A closing flag after at most four 1s ends the frame with the bits added so far. -/
theorem deframe_closingFlag {added : List Bool} {ones : Nat} (removed : Bool) (ho : ones ≤ 4) (ha : added ≠ []) :
    deframe (.framing added ones removed) flagBits = some added.reverse := by
  obtain ⟨a, rest, rfl⟩ := List.exists_cons_of_ne_nil ha
  have h5 : ones ≠ 5 := by omega
  have h6 : ones ≠ 6 := by omega
  simp [flagBits, deframe, Deframer.step, contentBeforeFlag, h5, h6]

/-- The deframer takes the inserted zeros out again: after stuffed bits it has added the bits that were stuffed, with at most four 1s
behind the last 0. -/
theorem deframe_stuff (bits : List Bool) {added : List Bool} {ones : Nat} {removed : Bool} (ho : ones ≤ 4)
    (rest : List Bool) : ∃ ones' removed', ones' ≤ 4 ∧
      deframe (.framing added ones removed) (stuff ones bits ++ rest) =
        deframe (.framing (bits.reverse ++ added) ones' removed') rest := by
  induction bits generalizing added ones removed with
  | nil => exact ⟨ones, removed, ho, rfl⟩
  | cons b bits ih =>
    have h6 : ones ≠ 6 := by omega
    cases b with
    | false =>
      obtain ⟨ones', removed', ho', h⟩ := @ih (false :: added) 0 false (Nat.zero_le _)
      refine ⟨ones', removed', ho', ?_⟩
      have step : (Deframer.framing added ones removed).step false = (.framing (false :: added) 0 false, none) := by
        simp [Deframer.step, h6]; omega
      simp only [stuff, Bool.false_eq_true, if_false, List.cons_append, deframe_cons_none step, h]
      simp
    | true =>
      have step : (Deframer.framing added ones removed).step true = (.framing (true :: added) (ones + 1) removed, none) := by
        simp [Deframer.step, h6]
      by_cases h4 : ones = 4
      · obtain ⟨ones', removed', ho', h⟩ := @ih (true :: added) 0 true (Nat.zero_le _)
        refine ⟨ones', removed', ho', ?_⟩
        have removal : (Deframer.framing (true :: added) (ones + 1) removed).step false =
            (.framing (true :: added) 0 true, none) := by simp [Deframer.step, h4]
        simp only [stuff, if_true, h4, List.cons_append]
        rw [deframe_cons_none (h4 ▸ step), deframe_cons_none (h4 ▸ removal), h]
        simp
      · obtain ⟨ones', removed', ho', h⟩ := @ih (true :: added) (ones + 1) removed (by omega)
        refine ⟨ones', removed', ho', ?_⟩
        simp only [stuff, if_true, h4, if_false, List.cons_append, deframe_cons_none step, h]
        simp

/-- The line bits of a content that is not empty deframe to that content (R2, R3). -/
theorem deframe_lineBits {content : List Bool} (hc : content ≠ []) :
    deframe (.hunting none) (flagBits ++ stuff 0 content ++ flagBits) = some content := by
  obtain ⟨ones, removed, ho, h⟩ := deframe_stuff content (added := []) (removed := false) (Nat.zero_le 4) flagBits
  rw [List.append_assoc, deframe_openingFlag, h, deframe_closingFlag removed ho (by simpa using hc)]
  simp

/-! ## Content and its checks (R4, R5) -/

theorem Frame.content_eq (f : Frame) :
    f.content = (f.kind.code ++ f.sender) :: f.window :: byteOf f.body.length ::
      (f.body ++ wordBytes (crc (f.header ++ f.body))) := by
  simp [Frame.content, Frame.header]

theorem Frame.content_length (f : Frame) : f.content.length = f.body.length + 5 := by
  simp [Frame.content_eq, wordBytes]

theorem Frame.natAt_content_two {f : Frame} (hf : f.body.length ≤ 24) : natAt f.content 2 = f.body.length := by
  rw [f.content_eq]
  exact byteOf_toNat (by omega)

theorem Frame.crcFits_content (f : Frame) : crcFits f.content = true := by
  have size : f.content.length - 2 = (f.header ++ f.body).length := by
    simp [Frame.content_length, Frame.header]
  rw [crcFits, size, Frame.content, List.take_left, List.drop_left]
  exact beq_self_eq_true _

theorem FrameKind.ofCode_code (k : FrameKind) : FrameKind.ofCode k.code = some k := by cases k <;> rfl

theorem headByte_sender (k s : BitVec 4) : (k ++ s).extractLsb' 0 4 = s := by
  revert k s; decide

theorem headByte_kind (k s : BitVec 4) : (k ++ s).extractLsb' 4 4 = k := by
  revert k s; decide

/-- The content of a frame with a body of at most 24 bytes passes the four checks (R5). -/
theorem Frame.isGoodContent_content {f : Frame} (hf : f.body.length ≤ 24) : isGoodContent (bytesBits f.content) = true := by
  have whole : wholeBytes (bytesBits f.content) = true := by simp [wholeBytes, bytesBits_length]
  have size : sizeFits f.content = true := by simp [sizeFits, Frame.content_length]; omega
  have length : lengthFits f.content = true := by
    rw [lengthFits, f.content_length, Frame.natAt_content_two hf]
    exact beq_self_eq_true _
  rw [isGoodContent, contentBytes_bytesBits, whole, size, length, f.crcFits_content]
  rfl

/-- Settles O15: the deframer undoes zero insertion, the content is made of whole bytes, and each byte stands where R4 puts it. -/
theorem frameSentIsReceivedGood : Obligations.FrameSentIsReceivedGood := by
  intro f hf
  have nonempty : bytesBits f.content ≠ [] := by
    rw [← List.length_pos_iff, bytesBits_length, f.content_length]; omega
  refine ⟨deframe_lineBits nonempty, Frame.isGoodContent_content hf, contentBytes_bytesBits _, ?_, ?_, ?_,
    Frame.natAt_content_two hf, ?_⟩ <;> rw [f.content_eq]
  · exact headByte_sender _ _
  · rw [byteAt_cons_zero, headByte_kind, FrameKind.ofCode_code]
  · rfl
  · exact List.take_left

end Sys2Proof.Machine
end

section
/-! SUPPORT. The self-test (R24), the good frames heard (R6) and the line's events and starts (R11, R14, R21). -/

namespace Sys2Proof.Machine

/-! ## The self-test (R24) -/

/-- Zero insertion adds at most one bit to every five (R2). -/
theorem stuff_length_le (bits : List Bool) {ones : Nat} (ho : ones ≤ 4) :
    5 * (stuff ones bits).length ≤ 6 * bits.length + ones := by
  induction bits generalizing ones with
  | nil => simp [stuff]
  | cons b bits ih =>
    unfold stuff
    split
    · split
      · have := @ih 0 (Nat.zero_le _)
        simp only [List.length_cons]
        omega
      · have := @ih (ones + 1) (by omega)
        simp only [List.length_cons]
        omega
    · have := @ih 0 (Nat.zero_le _)
      simp only [List.length_cons]
      omega

theorem testFrame_body_length (own : Station) : (testFrame own).body.length = 16 := rfl

theorem testFrame_body_fits (own : Station) : (testFrame own).body.length ≤ 24 :=
  (testFrame_body_length own).le.trans (by decide)

/-- The part's own TEST frame comes back within the 320 bit times of the self-test. -/
theorem testFrame_lineBits_length (own : Station) : (testFrame own).lineBits.length ≤ 320 := by
  have stuffed := stuff_length_le (bytesBits (testFrame own).content) (Nat.zero_le 4)
  rw [bytesBits_length, Frame.content_length, testFrame_body_length] at stuffed
  have flags : (testFrame own).lineBits.length = (stuff 0 (bytesBits (testFrame own).content)).length + 16 := by
    simp [Frame.lineBits, flagBits]
  omega

theorem deframe_testFrame (own : Station) :
    deframe (.hunting none) ((testFrame own).lineBits.take 320) = some (bytesBits (testFrame own).content) := by
  rw [List.take_of_length_le (testFrame_lineBits_length own)]
  exact (frameSentIsReceivedGood (testFrame own) (testFrame_body_fits own)).1

variable {s : State} {received content : List Bool}

theorem selftestResult_of_none {own : Station} (h : deframe (.hunting none) (received.take 320) = none) :
    selftestResult own received = .noFlag := by
  unfold selftestResult
  rw [show Config.selftestBits = 320 from rfl, h]

theorem selftestResult_of_some {own : Station} (h : deframe (.hunting none) (received.take 320) = some content) :
    selftestResult own received =
      if wholeBytes content && sizeFits (contentBytes content) && lengthFits (contentBytes content) &&
          natAt (contentBytes content) 2 == 16 then
        if contentBytes content = (testFrame own).content then .pass else .crc
      else .length := by
  unfold selftestResult
  rw [show Config.selftestBits = 320 from rfl, h]
  dsimp only
  generalize (wholeBytes content && _ && _ && _) = good
  cases good <;> simp [ite_not]

/-- A content of 21 whole bytes with length byte 16 passes all but the comparison with the own TEST frame. -/
theorem selftestResult_of_size {own : Station} (h : deframe (.hunting none) (received.take 320) = some content)
    (hw : content.length % 8 = 0) (hlen : (contentBytes content).length = 21) (h16 : natAt (contentBytes content) 2 = 16) :
    selftestResult own received = if contentBytes content = (testFrame own).content then .pass else .crc := by
  rw [selftestResult_of_some h, if_pos]
  simp [wholeBytes, sizeFits, lengthFits, *]

/-- The bits of the own TEST frame give PASS (R24). -/
theorem selftestResult_testFrame (own : Station) : selftestResult own (testFrame own).lineBits = .pass := by
  rw [selftestResult_of_size (deframe_testFrame own), contentBytes_bytesBits, if_pos rfl]
  · simp [bytesBits_length]
  · simp [contentBytes_bytesBits, Frame.content_length, testFrame_body_length]
  · rw [contentBytes_bytesBits, Frame.natAt_content_two (testFrame_body_fits own), testFrame_body_length]

theorem exec_selftestEnd (h : s.link.loopback = true) (received : List Bool) :
    exec (.selftestEnd received) s =
      .next ((s.setLink { s.link with hunt := .hunt, buffer := [], ones := 0, loopback := false }).reply
        (selftestResult s.presence.number received).reply) := by
  change Host.Outcome.next (if s.link.loopback then _ else s) = _
  rw [h]
  rfl

/-- Settles O44: the bits that came back are deframed, the conditions are met in R24's order, and the own TEST frame deframes to
its own content. -/
theorem selftestReply : Obligations.SelftestReply := by
  refine ⟨fun s ht => ⟨fun hs => ?_, fun hs => ?_⟩, fun s received hl => ?_⟩
  · simp [exec, execSelftest, ht, hs, HostPort.working, Link.hunting]
  · simp [exec, execSelftest, ht, hs]
    rfl
  · intro ended found
    refine ⟨fun hn => ?_, fun content hc => ⟨fun hbad => ?_, fun hw hlen h16 => ?_⟩, fun hr => ?_⟩ <;>
      rw [exec_selftestEnd hl]
    · rw [selftestResult_of_none hn]; rfl
    · rw [selftestResult_of_some hc, if_neg]
      · rfl
      · simp only [wholeBytes, sizeFits, lengthFits]
        simp
        omega
    · rw [selftestResult_of_size hc hw hlen h16]
      split <;> rfl
    · rw [hr, selftestResult_testFrame]
      rfl

/-! ## Good frames (R6, R12, R29, R31, R32, R34) -/

theorem isUnknownKind_of_code {g k : BitVec 4} (window : Byte) (body : List Byte) (hk : k = 0 ∨ 10 ≤ k.toNat) :
    isUnknownKind g k window body = true := by
  have code : FrameKind.ofCode k = none ∨ FrameKind.ofCode k = some .test := by
    revert k; decide
  unfold isUnknownKind
  rcases code with h | h <;> rw [h]
  rfl

theorem exec_unknownKindFrame {s : State} {g k : BitVec 4} {window : Byte} {body : List Byte}
    (hu : isUnknownKind g k window body = true) :
    exec (.unknownKindFrame g k window body) s = .next (s.heard g false id) := by
  change Host.Outcome.next (if isUnknownKind g k window body then s.heard g false id else s) = _
  rw [hu]
  rfl

theorem State.heard_of_loopback {s : State} (h : s.link.loopback = true) (g : Station) (passes : Bool)
    (deliver : State → State) : s.heard g passes deliver = s := by
  simp [State.heard, h]

theorem State.heard_of_notReported {s : State} {g : Station} (h : s.link.loopback = false)
    (hn : s.presence.state = .setup ∨ g = s.presence.number) (passes : Bool) (deliver : State → State) :
    s.heard g passes deliver = s.frameTaken g := by
  have : s.isReported g = false := by
    rcases hn with hn | hn <;> simp [State.isReported, hn]
  simp [State.heard, h, this]

theorem State.heard_failing_of_hears {s : State} {g : Station} (h : s.hears g) (deliver : State → State) :
    s.heard g false deliver = s.delivered g := by
  obtain ⟨online, started, other⟩ := h
  simp [State.heard, online, State.isReported, started, other, State.delivered]

theorem State.heardAtStation_peers (s : State) (g : Station) :
    (s.heardAtStation g).presence.peers = s.presence.peers := by
  unfold State.heardAtStation
  dsimp only
  split <;> simp

/-- Settles O48: what a good frame does before its owner acts is State.delivered, written out by station state. -/
theorem goodFramesAreHeard : Obligations.GoodFramesAreHeard := by
  refine ⟨fun g k window body hk => isUnknownKind_of_code window body hk, ?_⟩
  intro s g k window body hu taken
  rw [exec_unknownKindFrame hu]
  refine ⟨fun hl => ?_, fun hl hn => ?_, fun hh => ?_⟩
  · rw [State.heard_of_loopback hl]
  · rw [State.heard_of_notReported hl hn]
    rfl
  · intro atStation known d
    rw [State.heard_failing_of_hears hh]
    have told : (s.frameTaken g).heardAtStation g = atStation := rfl
    have peer : atStation.presence.peer g = s.presence.peer g := by
      simp only [← told, Presence.peer, State.heardAtStation_peers]
      rfl
    have delivered : s.delivered g = d := by
      change ((s.frameTaken g).heardAtStation g).peerHeard g = d
      rw [told, State.peerHeard, peer]
      rfl
    exact ⟨congrArg _ delivered, delivered⟩

/-! ## Line events and starts (R3, R5, R11, R14, R21) -/

/-- At a start instant of a station that may transmit, the WAITING head begins or leaves (R14). -/
theorem exec_transmitStart {s : State} {e : TxEntry} {rest : List TxEntry} {slots : Nat} (hq : s.link.queue = e :: rest)
    (he : e.sending = false) (hs : s.presence.state = .active ∨ s.presence.state = .isolated)
    (hl : s.link.loopback = false) (hi : s.link.lineIdle = true) (ht : s.link.idleTimer ≤ slots)
    (hp : slots % 16 = (s.presence.number - s.link.lastSender - 1).toNat) :
    exec (.transmitStart slots) s = .next (s.startHead e rest slots) := by
  have may : s.mayTransmit = true := by
    rcases hs with hs | hs <;> simp [State.mayTransmit, hs]
  have can : s.canStart slots = true := by
    simp [State.canStart, may, hl, hi, State.isStartInstant, ht, hp, State.slotPosition]
  simp [exec, execTransmitStart, hq, can, he]

/-- The transmission that an entry with contents begins. -/
theorem State.startHead_of_contents {s : State} {e : TxEntry} {window : Byte} {body : List Byte}
    (h : s.contents e = some (window, body)) (rest : List TxEntry) (slots : Nat) :
    s.startHead e rest slots = s.setLink
      { s.link with
        queue := { e with sending := true } :: rest
        txFrame := some { sender := s.presence.number, kind := e.kind, window := window, body := body }
        lineIdle := false
        idleTimer := 0 } := by
  simp [State.startHead, State.build, h]

/-- An entry with nothing to send leaves. -/
theorem State.startHead_of_none {s : State} {e : TxEntry} (h : s.contents e = none) (rest : List TxEntry) (slots : Nat) :
    s.startHead e rest slots = s.setLink { s.link with queue := rest, idleTimer := slots + 1 } := by
  simp [State.startHead, State.build, h]

theorem Vessel.anyDue_iff (v : Vessel) : v.anyDue = true ↔ ∃ g ∈ v.gates.toList, g.due = true :=
  List.any_eq_true

/-- Settles O45: the receiver's events by its states, and at a start the contents that each kind's owner gives. -/
theorem lineEventsAndStarts : Obligations.LineEventsAndStarts := by
  intro s
  refine ⟨fun hi => ?_, rfl, fun hl => ⟨fun hh => ?_, ?_, ?_, fun content hc hg => ?_⟩, ?_⟩
  · simp [exec, execLineIdle, hi]
  · simp [exec, execOpeningFlagFound, hh, hl]
  · simp [exec, execFrameAbortHeard, hl, Link.hunting]
  · simp [exec, execBadFrame]
  · simp [exec, execBadFrame, hl, hc, hg, Link.hunting]
  · intro e rest slots hq he hs hl hi ht hp started removed byte
    rw [exec_transmitStart hq he hs hl hi ht hp]
    have begins {window : Byte} {body : List Byte} (h : s.contents e = some (window, body)) :
        s.startHead e rest slots = started window body := State.startHead_of_contents h rest slots
    have leaves (h : s.contents e = none) : s.startHead e rest slots = removed := State.startHead_of_none h rest slots
    have choice {p : Prop} [Decidable p] {window : Byte} {body : List Byte}
        (h : s.contents e = if p then some (window, body) else none) :
        s.startHead e rest slots = if p then started window body else removed := by
      split at h
      next hp => rw [if_pos hp, begins h]
      next hp => rw [if_neg hp, leaves h]
    refine ⟨fun hk hn => ?_, fun hk hn => ?_, fun hk => ?_, fun hk => ?_, fun hk => ?_, fun hk => ?_,
      fun hk c hc => ?_, fun hk => ?_, fun hk => ?_⟩ <;> congr 1
    · exact begins (by rw [State.contents, hk, show s.isVessel = false from beq_eq_false_iff_ne.2 hn]; rfl)
    · exact begins (by rw [State.contents, hk, show s.isVessel = true from beq_iff_eq.2 hn]; rfl)
    · exact choice (by rw [State.contents, hk]; rfl)
    · split
      next ho => exact leaves (by rw [State.contents, hk, ho]; rfl)
      next ho => exact begins (by simp only [State.contents, hk, ho, if_false]; rfl)
    · exact choice (by rw [State.contents, hk]; rfl)
    · refine choice ?_
      simp only [State.contents, hk, Vessel.anyDue_iff]
      rfl
    · exact begins (by rw [State.contents, hk, hc]; rfl)
    · exact begins (by rw [State.contents, hk]; rfl)
    · exact begins (by rcases hk with hk | hk <;> rw [State.contents, hk])

end Sys2Proof.Machine
end

section
/-! SUPPORT. A kind in the deferred slot that is no evacuation kind: two statements ask of every state what R20 gives only where the slot
holds EGRESS or EGRESS END. -/

namespace Sys2Proof.Machine

/-- What the refuted clauses say of an evacuation kind in the deferred slot: behind no SENDING entry and no other evacuation frame
it stands at the head (R20). -/
theorem Link.queueEvacuation_queue_of_clear {l : Link} {k : FrameKind} (hk : k.isEvacuation = true)
    (hr : ∀ x ∈ l.queue, x.sending = false ∧ x.kind.isEvacuation = false) :
    (l.queueEvacuation k).queue = TxEntry.fresh k :: l.queue := by
  have absent : ∀ x ∈ l.queue, x.kind ≠ k := by
    rintro x hx rfl
    exact Bool.false_ne_true ((hr x hx).2.symm.trans hk)
  have kept : (l.queue.filter fun x => !x.kind.isEvacuation) = l.queue :=
    List.filter_eq_self.2 fun x hx => by simp [(hr x hx).2]
  rw [Link.queueEvacuation_of_absent (fun x hx _ => (hr x hx).1) absent, kept]
  cases hq : l.queue with
  | nil => rfl
  | cons a rest => rw [placeAtHead_cons, if_neg (by simp [(hr a (by simp [hq])).1])]

/-- EGRESS on its third attempt. -/
def lastEgress : TxEntry := { TxEntry.fresh .egress with sending := true, attempts := 2 }

/-- A gate that sends EGRESS, with a STATUS waiting behind it and STATUS in the deferred slot as well: no run of the part leads
here, since the slot takes evacuation kinds alone. -/
def strayDeferral : State :=
  (State.afterReset 3 false).setLink
    { Link.afterReset with
      queue := [lastEgress, TxEntry.fresh .status]
      deferred := some .status
      txFrame := some ⟨3, .egress, 0, []⟩ }

/-- Taken from the slot as R20 takes an evacuation kind, the STATUS finds its kind WAITING and does not join again. -/
theorem strayDeferral_taken {m : Link} (hq : m.queue = [TxEntry.fresh .status]) :
    (m.queueEvacuation .status).queue = [TxEntry.fresh .status] := by
  rw [Link.queueEvacuation_of_waiting (by simp [hq, TxEntry.fresh]) (by simp [hq, TxEntry.fresh]), hq]

theorem strayDeferral_not_doubled : ¬ [TxEntry.fresh .status] = [TxEntry.fresh .status, TxEntry.fresh .status] := by
  decide

theorem strayDeferral_rest : ∀ x ∈ [TxEntry.fresh .status], x.sending = false ∧ x.kind.isEvacuation = false := by
  decide

/-- Refutes O46: after the third loss of EGRESS the last clause puts the deferred kind at the head, and for a kind in the slot that is no
evacuation kind and is WAITING already nothing joins. -/
theorem not_lostTransmissions : ¬ Obligations.LostTransmissions := by
  intro h
  obtain ⟨-, -, -, -, deferred⟩ :=
    h strayDeferral lastEgress [TxEntry.fresh .status] ⟨3, .egress, 0, []⟩ rfl rfl rfl
  obtain ⟨-, third⟩ := deferred .status rfl (.inl rfl)
  obtain ⟨-, -, atHead⟩ := third (Nat.le_refl 2) rfl
  exact strayDeferral_not_doubled ((strayDeferral_taken rfl).symm.trans (atHead strayDeferral_rest))

/-- Refutes O47: after the completion of EGRESS the clause on the deferred slot puts the deferred kind at the head, and for a kind in
the slot that is no evacuation kind and is WAITING already nothing joins. -/
theorem not_completedTransmissions : ¬ Obligations.CompletedTransmissions := by
  intro h
  obtain ⟨-, deferred, -⟩ :=
    h strayDeferral lastEgress [TxEntry.fresh .status] ⟨3, .egress, 0, []⟩ rfl rfl rfl
  obtain ⟨-, -, atHead⟩ := deferred .status rfl rfl
  exact strayDeferral_not_doubled ((strayDeferral_taken rfl).symm.trans (atHead strayDeferral_rest))

end Sys2Proof.Machine
end

section
/-! SUPPORT. The presence unit's timers expire (R30, R31, R35, R36): the command of a running timer, and what the window unit
and the window view make of it (R48, R59). -/

namespace Sys2Proof.Machine

section Expiries

variable {s : State} {peer : Station}

/-! ## Role, window and view -/

/-- The gate role is every number but 0 (R25). -/
theorem State.isGate_iff : s.isGate = true ↔ s.presence.number ≠ 0 := by
  simp [State.isGate, State.isVessel]

/-- A window that is not OPEN is not closed (R48). -/
theorem State.closeWindow_of_not_opened (h : s.vessel.state ≠ .opened) (cause : CloseCause) : s.closeWindow cause = s :=
  if_neg h

/-- An OPEN view becomes ORPHANED, and the admission unit and the place account unit are told (R59). -/
theorem State.viewOrphan_of_opened (h : s.view.state = .opened) :
    s.viewOrphan =
      (((s.setView { s.view with state := .orphaned, orphanTimer := .running 30000 }).raise .windowOrphaned
        s.view.number).stopPresentation .windowClosed).endClaim :=
  if_pos h

/-- A view that is not OPEN is not orphaned (R59). -/
theorem State.viewOrphan_of_not_opened (h : s.view.state ≠ .opened) : s.viewOrphan = s :=
  if_neg h

/-! ## The commands of the running timers -/

theorem exec_listenTimerExpiry (hr : s.presence.listenTimer.isRunning = true) (hl : s.presence.state = .listen) :
    exec .listenTimerExpiry s = .next
      ((((s.setLink { s.link with lastSender := 15 }).setPresence
        { s.presence with state := .isolated, listenTimer := .stopped, rollTimer := .running 100 }).raise
          .isolated).queueKind .status) :=
  congrArg Host.Outcome.next (if_pos ⟨hr, hl⟩)

theorem exec_isolationTimerExpiry (hr : s.presence.isolationTimer.isRunning = true) (ha : s.presence.state = .active) :
    exec .isolationTimerExpiry s = .next
      (((s.setPresence { s.presence with state := .isolated, isolationTimer := .stopped }).raise .isolated).closeWindow
        .isolation) :=
  congrArg Host.Outcome.next (if_pos ⟨hr, ha⟩)

theorem exec_rollTimerExpiry (hr : s.presence.rollTimer.isRunning = true) :
    exec .rollTimerExpiry s = .next
      ((s.setPresence { s.presence with rollTimer := .running 100 }).queueKind .status).backgroundCheck :=
  congrArg Host.Outcome.next (if_pos hr)

/-- The state after a silent peer has become ABSENT (R35), before its absence reaches the window view. -/
def State.peerSilent (s : State) (peer : Station) : State :=
  (s.setPresence (s.presence.setPeer peer
    { presence := .absent, silence := .stopped, record := none, egress := false })).raise .peerLost peer.toNat

@[simp] theorem State.peerSilent_view (s : State) (peer : Station) : (s.peerSilent peer).view = s.view := rfl

theorem exec_silenceTimerExpiry (hr : (s.presence.peer peer).silence.isRunning = true) :
    exec (.silenceTimerExpiry peer) s = .next (settleClear s
      (if s.isGate = true ∧ peer = 0 then (s.peerSilent peer).viewOrphan else s.peerSilent peer)) :=
  congrArg Host.Outcome.next (if_pos hr)

/-- The silence of a peer ends with its absence at the vessel station, for a peer that is not the vessel station, and for a
view that is not OPEN (R35, R59). -/
theorem exec_silenceTimerExpiry_absent (hr : (s.presence.peer peer).silence.isRunning = true)
    (h : s.presence.number = 0 ∨ peer ≠ 0 ∨ s.view.state ≠ .opened) :
    exec (.silenceTimerExpiry peer) s = .next (settleClear s (s.peerSilent peer)) := by
  rw [exec_silenceTimerExpiry hr]
  split
  next hg =>
    obtain ⟨gate, vesselStation⟩ := hg
    have notOpened : (s.peerSilent peer).view.state ≠ .opened :=
      (h.resolve_left (State.isGate_iff.1 gate)).resolve_left (not_not_intro vesselStation)
    rw [State.viewOrphan_of_not_opened notOpened]
  next => rfl

/-- The vessel station's silence at a gate orphans an OPEN view (R59). -/
theorem exec_silenceTimerExpiry_orphans (hr : (s.presence.peer peer).silence.isRunning = true)
    (hg : s.presence.number ≠ 0) (hv : s.view.state = .opened) (hp : peer = 0) :
    exec (.silenceTimerExpiry peer) s = .next (settleClear s
      (((((s.peerSilent peer).setView { s.view with state := .orphaned, orphanTimer := .running 30000 }).raise
        .windowOrphaned s.view.number).stopPresentation .windowClosed).endClaim)) := by
  rw [exec_silenceTimerExpiry hr, if_pos ⟨State.isGate_iff.2 hg, hp⟩, State.viewOrphan_of_opened (s := s.peerSilent peer) hv,
    State.peerSilent_view]

end Expiries

/-- Settles O53: one command equation per timer; the isolation splits by the window's state, the silence by role, peer and
view. -/
theorem presenceTimersExpire : Obligations.PresenceTimersExpire := by
  refine ⟨fun s => exec_listenTimerExpiry, ?_, fun s => exec_rollTimerExpiry, ?_⟩
  · intro s hr ha isolated
    refine ⟨fun hw => ?_, fun _ => exec_isolationTimerExpiry hr ha⟩
    rw [exec_isolationTimerExpiry hr ha]
    exact congrArg Host.Outcome.next (State.closeWindow_of_not_opened (s := isolated) hw .isolation)
  · intro s peer hr lost
    refine ⟨exec_silenceTimerExpiry_absent hr, ?_⟩
    intro hg hv orphaned hp
    exact exec_silenceTimerExpiry_orphans hr hg hv hp

end Sys2Proof.Machine
end

section
/-! SUPPORT. The vessel station's window requests (R43 to R45, R47), with what a request of either role comes to. -/

namespace Sys2Proof.Machine

section Requests

variable {s : State} {role : RequestRole} {body : State → State × Reply}

/-! ## A request taken, or refused by role (R184) -/

/-- The vessel role is number 0 (R25). -/
theorem State.isVessel_iff : s.isVessel = true ↔ s.presence.number = 0 := by
  simp [State.isVessel]

theorem State.takeRequest_of_role (hc : s.canTake = true) (hr : s.hasRole role = true) :
    s.takeRequest role body = (body s).1.reply (body s).2 := by
  rw [State.takeRequest, if_pos hc, if_pos hr]

theorem State.takeRequest_of_otherRole (hc : s.canTake = true) (hr : ¬ s.hasRole role = true) :
    s.takeRequest role body = s.reply ⟨2, [16, 0]⟩ := by
  rw [State.takeRequest, if_pos hc, if_neg hr]
  rfl

/-- A request of the vessel station at the vessel station. -/
theorem State.takeRequest_vessel (hc : s.canTake = true) (hn : s.presence.number = 0) :
    s.takeRequest .vessel body = (body s).1.reply (body s).2 :=
  State.takeRequest_of_role hc (State.isVessel_iff.2 hn)

/-- A request of the vessel station at a gate. -/
theorem State.takeRequest_vessel_of_gate (hc : s.canTake = true) (hn : s.presence.number ≠ 0) :
    s.takeRequest .vessel body = s.reply ⟨2, [16, 0]⟩ :=
  State.takeRequest_of_otherRole hc (mt State.isVessel_iff.1 hn)

/-! ## CLOSE WINDOW and SET ONBOARD -/

theorem State.takeCloseWindow_of_opened (h : s.vessel.state = .opened) :
    s.takeCloseWindow = (s.closeWindow .request, ⟨1, [BitVec.ofNat 8 s.vessel.number]⟩) :=
  if_pos h

theorem State.takeCloseWindow_of_not_opened (h : s.vessel.state ≠ .opened) : s.takeCloseWindow = (s, ⟨2, [17, 0]⟩) :=
  if_neg h

/-- OVER CAPACITY is raised exactly above capacity (R43, R53, R55). -/
theorem State.overCapacityCheck_eq (s : State) :
    s.overCapacityCheck =
      if s.config.capacity < s.vessel.onboard then s.raise .overCapacity s.vessel.onboard s.config.capacity else s :=
  rfl

theorem State.takeSetOnboard_of_none (h : s.vessel.state = .none) (count : Word16) :
    State.takeSetOnboard count s = ((s.setVessel { s.vessel with onboard := count.toNat }).overCapacityCheck, ⟨1, []⟩) :=
  if_pos h

theorem State.takeSetOnboard_of_window (h : s.vessel.state ≠ .none) (count : Word16) :
    State.takeSetOnboard count s = (s, ⟨2, [17, 0]⟩) :=
  if_neg h

/-! ## Taking FLOW does not read the vessel half -/

theorem State.setLane_setVessel (s : State) (v : Vessel) (l : Lane) :
    (s.setVessel v).setLane l = (s.setLane l).setVessel v :=
  rfl

theorem State.reportOpen_setVessel (s : State) (v : Vessel) :
    (s.setVessel v).reportOpen = s.reportOpen.setVessel v := by
  simp only [State.reportOpen, apply_ite (State.setVessel · v)]
  rfl

theorem State.reachOpen_setVessel (s : State) (v : Vessel) :
    (s.setVessel v).reachEnd .openEnd = (s.reachEnd .openEnd).setVessel v :=
  (s.setBarrier (s.barrier.atEnd .openEnd)).reportOpen_setVessel v

theorem State.beginOpen_setVessel (s : State) (v : Vessel) :
    (s.setVessel v).beginOpen = s.beginOpen.setVessel v := by
  simp only [State.beginOpen, apply_ite (State.setVessel · v), State.reachOpen_setVessel]
  rfl

theorem State.turnOpen_setVessel (s : State) (v : Vessel) :
    (s.setVessel v).turnOpen = s.turnOpen.setVessel v := by
  simp only [State.turnOpen, apply_ite (State.setVessel · v), State.reachOpen_setVessel]
  rfl

/-- The lane's open command, by barrier state (R163). -/
theorem State.openCommand_setVessel (s : State) (v : Vessel) :
    (s.setVessel v).openCommand false = (s.openCommand false).setVessel v := by
  unfold State.openCommand
  rw [State.setVessel_barrier]
  cases s.barrier.state
  case unknown | closed | paused => exact s.commandTaken.beginOpen_setVessel v
  case opening | halted => rfl
  case opened => exact s.commandTaken.reportOpen_setVessel v
  case closing => exact s.commandTaken.turnOpen_setVessel v

theorem State.tallyCheck_setVessel (s : State) (v : Vessel) :
    (s.setVessel v).tallyCheck = s.tallyCheck.setVessel v := by
  simp only [State.tallyCheck, apply_ite (State.setVessel · v)]
  rfl

theorem State.unarmTracker_setVessel (s : State) (v : Vessel) :
    (s.setVessel v).unarmTracker = s.unarmTracker.setVessel v :=
  State.tallyCheck_setVessel (s.setLane _) v

/-- What taking FLOW does to the lane and the barrier stands apart from the vessel half (R143). -/
theorem State.takeFlow_setVessel (s : State) (v : Vessel) :
    (s.setVessel v).takeFlow = s.takeFlow.setVessel v := by
  simp only [State.takeFlow, State.unarmTracker_setVessel, State.setLane_setVessel, State.openCommand_setVessel,
    State.setVessel_lane, State.setVessel_presence, State.setLane_lane]
  split
  · rfl
  split
  · rfl
  cases s.unarmTracker.lane.state
  case fault => exact (apply_ite (State.setVessel · v) _ _ _).symm
  all_goals rfl

/-! ## OPEN WINDOW -/

/-- The first row of R44: a window, a station state other than ACTIVE, or egress. -/
theorem State.takeOpenWindow_of_state
    (h : s.vessel.state ≠ .none ∨ s.presence.state ≠ .active ∨ s.egress.state = .egress) :
    s.takeOpenWindow = (s, ⟨2, [17, 0]⟩) :=
  if_pos (h.imp_right (Or.imp_right beq_iff_eq.2))

/-- The row of R44 that refuses OPEN WINDOW by its state does not apply. -/
theorem State.mayOpen (hw : s.vessel.state = .none) (ha : s.presence.state = .active) (he : s.egress.state = .normal) :
    ¬(s.vessel.state ≠ .none ∨ s.presence.state ≠ .active ∨ s.inEgress = true) := by
  simp [State.inEgress, hw, ha, he]

theorem State.takeOpenWindow_of_full (hw : s.vessel.state = .none) (ha : s.presence.state = .active)
    (he : s.egress.state = .normal) (hf : s.config.capacity ≤ s.vessel.onboard) :
    s.takeOpenWindow = (s, ⟨2, [18, 0]⟩) := by
  rw [State.takeOpenWindow, if_neg (State.mayOpen hw ha he), if_pos hf]
  rfl

/-- In ACTIVE the STATUS trigger queues a STATUS (R37). -/
theorem State.statusTrigger_of_active (h : s.presence.state = .active) : s.statusTrigger = s.queueKind .status := by
  simp [State.statusTrigger, State.mayTransmit, h]

theorem State.takeOpenWindow_of_places (hw : s.vessel.state = .none) (ha : s.presence.state = .active)
    (he : s.egress.state = .normal) (hp : s.vessel.onboard < s.config.capacity) :
    s.takeOpenWindow =
      (((((s.takeFlow.setVessel
          { s.vessel.openedWith (s.config.capacity - s.vessel.onboard) with state := .opened }).queueKind .offer).queueKind
        .status).raise .windowOpened s.vessel.nextNumber (s.config.capacity - s.vessel.onboard)),
        ⟨1, BitVec.ofNat 8 s.vessel.nextNumber :: countBytes (s.config.capacity - s.vessel.onboard)⟩) := by
  rw [State.takeOpenWindow, if_neg (State.mayOpen hw ha he), if_neg (Nat.not_le.2 hp)]
  dsimp only
  rw [State.takeFlow_setVessel, State.statusTrigger_of_active]
  · rfl
  · simp [ha]

end Requests

/-- Settles O37: R44's rows in their order, and the taken request with the lane's FLOW apart from the vessel half. -/
theorem openWindowRequest : Obligations.OpenWindowRequest := by
  intro s hc
  have taken (hn : s.presence.number = 0) : exec .openWindow s =
      .next (settleClear s (s.takeOpenWindow.1.reply s.takeOpenWindow.2)) :=
    congrArg (Host.Outcome.next <| settleClear s ·) (State.takeRequest_vessel hc hn)
  refine ⟨fun hn => ?_, fun hn => ⟨fun hr => ?_, fun hw ha he => ⟨fun hf => ?_, fun hp => ?_⟩⟩⟩
  · exact congrArg (Host.Outcome.next <| settleClear s ·) (State.takeRequest_vessel_of_gate hc hn)
  · rw [taken hn, State.takeOpenWindow_of_state hr]
  · rw [taken hn, State.takeOpenWindow_of_full hw ha he hf]
  · rw [taken hn, State.takeOpenWindow_of_places hw ha he hp]
    rfl

/-- Settles O38: by role, and by the window's state. -/
theorem closeWindowRequest : Obligations.CloseWindowRequest := by
  intro s hc
  have taken (hn : s.presence.number = 0) : exec .closeWindow s =
      .next (s.takeCloseWindow.1.reply s.takeCloseWindow.2) :=
    congrArg Host.Outcome.next (State.takeRequest_vessel hc hn)
  refine ⟨fun hn => ?_, fun hn => ⟨fun hw => ?_, fun hw => ?_⟩⟩
  · exact congrArg Host.Outcome.next (State.takeRequest_vessel_of_gate hc hn)
  · rw [taken hn, State.takeCloseWindow_of_not_opened hw]
  · rw [taken hn, State.takeCloseWindow_of_opened hw]

/-- Settles O40: by role, and by the window's state. -/
theorem setOnboardRequest : Obligations.SetOnboardRequest := by
  intro s count hc
  have taken (hn : s.presence.number = 0) : exec (.setOnboard count) s =
      .next ((State.takeSetOnboard count s).1.reply (State.takeSetOnboard count s).2) :=
    congrArg Host.Outcome.next (State.takeRequest_vessel hc hn)
  refine ⟨fun hn => ?_, fun hn => ⟨fun hw => ?_, fun hw => ?_⟩⟩
  · exact congrArg Host.Outcome.next (State.takeRequest_vessel_of_gate hc hn)
  · rw [taken hn, State.takeSetOnboard_of_none hw, State.overCapacityCheck_eq]
    rfl
  · rw [taken hn, State.takeSetOnboard_of_window hw]

end Sys2Proof.Machine
end

section
/-! SUPPORT. The vessel station's windows: closing, the completion condition and completion (R48, R52, R53). -/

namespace Sys2Proof.Machine

section Windows

variable {s : State}

/-! ## The completion condition (R52) -/

/-- The tally is complete when every gate granted places is final. -/
theorem State.tallyComplete_iff : s.tallyComplete = true ↔ ∀ g ∈ s.vessel.gates.toList, 0 < g.granted → g.final = true := by
  simp only [State.tallyComplete, List.all_eq_true, Bool.or_eq_true, beq_iff_eq, Nat.pos_iff_ne_zero, or_iff_not_imp_left,
    ne_eq]

/-- In CLOSING the check completes the window when every gate granted places is final. -/
theorem State.completionCheck_eq (s : State) :
    s.completionCheck =
      if s.vessel.state = .closing ∧ ∀ g ∈ s.vessel.gates.toList, 0 < g.granted → g.final = true then
        s.completeWindow true
      else s := by
  simp only [State.completionCheck, State.tallyComplete_iff]

/-! ## Closing and completion (R48, R53) -/

/-- The vessel station that has closed its window, before the first check of the completion condition. -/
def State.windowClosing (s : State) (cause : CloseCause) : State :=
  (((s.queueKind .close).setVessel { s.vessel with state := .closing, tallyTimer := .running 1500 }).statusTrigger).raise
    .windowClosing s.vessel.number cause.code

@[simp] theorem State.windowClosing_vessel (s : State) (cause : CloseCause) :
    (s.windowClosing cause).vessel = { s.vessel with state := .closing, tallyTimer := .running 1500 } := by
  simp [State.windowClosing]

/-- A window in OPEN is closed, and the completion condition checked (R48, R52). -/
theorem State.closeWindow_of_opened (h : s.vessel.state = .opened) (cause : CloseCause) :
    s.closeWindow cause = (s.windowClosing cause).completionCheck := by
  simp only [State.closeWindow, if_pos h, State.statusTrigger_frame]
  rfl

/-- The vessel half after a window's completion (R53). -/
def Vessel.completed (v : Vessel) : Vessel :=
  { v with
    onboard := min (v.onboard + v.boarded) 65535, tallyTimer := .stopped, state := .none,
    record := some v.closedRecord }

/-- Completion, with OVER CAPACITY judged on the onboard count that it leaves (R53). -/
theorem State.completeWindow_eq (s : State) (complete : Bool) :
    s.completeWindow complete =
      let done :=
        ((s.setVessel s.vessel.completed).raise .tally
          (if complete then s.vessel.number + 256 else s.vessel.number) s.vessel.boarded s.vessel.excessSum).statusTrigger
      if s.config.capacity < s.vessel.completed.onboard then
        done.raise .overCapacity s.vessel.completed.onboard s.config.capacity
      else done := by
  have flag : s.vessel.number + (if complete then 256 else 0) =
      if complete then s.vessel.number + 256 else s.vessel.number := by
    cases complete <;> rfl
  simp only [State.completeWindow, flag, State.overCapacityCheck_eq, State.statusTrigger_frame, State.raise_frame]
  rfl

/-- A window with places granted at a gate that is not final stays in CLOSING (R48, R52). -/
theorem State.closeWindow_of_missing (ho : s.vessel.state = .opened) (cause : CloseCause)
    (hm : ∃ g ∈ s.vessel.gates.toList, 0 < g.granted ∧ g.final = false) : s.closeWindow cause = s.windowClosing cause := by
  rw [State.closeWindow_of_opened ho, State.completionCheck_eq, State.windowClosing_vessel]
  obtain ⟨g, hg, granted, notFinal⟩ := hm
  exact if_neg fun ⟨_, final⟩ => Bool.false_ne_true (notFinal ▸ final g hg granted)

/-- A window whose tally is complete already completes as it closes (R48, R52). -/
theorem State.closeWindow_of_complete (ho : s.vessel.state = .opened) (cause : CloseCause)
    (hc : ∀ g ∈ s.vessel.gates.toList, 0 < g.granted → g.final = true) :
    s.closeWindow cause = (s.windowClosing cause).completeWindow true := by
  rw [State.closeWindow_of_opened ho, State.completionCheck_eq, State.windowClosing_vessel]
  exact if_pos ⟨rfl, hc⟩

end Windows

/-- Settles O39: closing by the completion condition, the tally timer's expiry, and what completion does. -/
theorem windowsCloseAndComplete : Obligations.WindowsCloseAndComplete := by
  refine ⟨?_, ?_, State.completeWindow_eq⟩
  · intro s cause ho closing
    have closes : s.windowClosing cause = closing := by cases cause <;> rfl
    rw [← closes]
    exact ⟨State.closeWindow_of_missing ho cause, State.closeWindow_of_complete ho cause⟩
  · intro s hc hr
    exact congrArg Host.Outcome.next (if_pos ⟨hr, hc⟩)

end Sys2Proof.Machine
end

section
/-! SUPPORT. The gate place account's timers: the orphan limit, the background check, claims begun, repeated and ended (R60, R63, R67
to R72, R84, R91). -/

namespace Sys2Proof.Machine

section AccountTimers

variable {s : State} {p : Presentation}

/-! ## The orphan limit (R60, R84) -/

/-- Only a CLOSED view is looked at for the finished report (R61). -/
theorem State.tallyCheck_of_not_closed (h : s.view.state ≠ .closed) : s.tallyCheck = s :=
  if_neg fun due => h due.2.1

/-- A refund leaves a view alone that is not CLOSED. -/
theorem State.refund_view_of_not_closed (h : s.view.state ≠ .closed) (cause : RefundCause) : (s.refund cause).view = s.view := by
  unfold State.refund
  split
  · rfl
  · dsimp only
    rw [State.tallyCheck_of_not_closed] <;> split <;> simp [h]

/-- The orphan limit's refund leaves the ORPHANED view for the view's own end (R60). -/
theorem State.abandon_of_orphaned (ho : s.view.state = .orphaned) :
    s.abandon =
      (((s.refund .abandoned).setView { s.view with state := .none, number := 0, orphanTimer := .stopped }).raise
        .windowAbandoned s.view.number).clearAccount := by
  have view : (s.refund .abandoned).view = s.view := State.refund_view_of_not_closed (by simp [ho]) .abandoned
  rw [State.abandon, view]

theorem State.clearAccount_eq (s : State) :
    s.clearAccount =
      let cleared := (s.endClaim.setAccount Account.afterReset).setLane { s.lane with paid := 0, unpaid := 0, excess := 0 }
      if s.account.returned = 0 then cleared else cleared.statusTrigger := by
  simp only [State.clearAccount, State.endClaim_frame]

theorem exec_orphanTimerExpiry (hr : s.view.orphanTimer.isRunning = true) (ho : s.view.state = .orphaned) :
    exec .orphanTimerExpiry s = .next (settleClear s s.abandon) :=
  congrArg Host.Outcome.next (if_pos ⟨hr, ho⟩)

/-! ## Claims begun (R67 to R69) -/

theorem State.backgroundDue_iff :
    s.backgroundDue = true ↔
      s.presence.number ≠ 0 ∧ s.view.state = .opened ∧ (s.presence.state = .active ∨ s.presence.state = .isolated) ∧
        s.account.announced = true ∧ s.account.granted - s.account.returned - s.account.charged < s.config.lowMark ∧
        s.account.claim = .none ∧ s.account.full = false ∧ s.lane.state ≠ .held ∧ s.lane.state ≠ .fault ∧
        s.lane.holdPending = false ∧ s.egress.state = .normal := by
  have normal : s.egress.state ≠ .egress ↔ s.egress.state = .normal := by cases s.egress.state <;> decide
  simp only [State.backgroundDue, Bool.and_eq_true, decide_eq_true_eq]
  simp [State.isGate_iff, State.mayTransmit, State.held, State.inEgress, normal, and_assoc]

/-- A presentation in AWAIT_PLACES waits for places. -/
theorem State.awaitsPlaces_of_record (hp : s.admission.record = some p) (hw : p.state = .awaitPlaces) :
    s.awaitsPlaces = true := by
  simp [State.awaitsPlaces, hp, hw]

/-- A kept demand of a waiting presentation is made as soon as the view is announced (R68). -/
theorem exec_keptDemandStart {party : Nat} (hk : s.account.kept = some party) (ha : s.account.announced = true)
    (hw : s.awaitsPlaces = true) :
    exec .keptDemandStart s = .next ((s.setAccount { s.account with kept := none }).demand party) := by
  simp only [exec, execKeptDemandStart, hk, ha, hw, and_self, if_true]

theorem State.demand_of_none (hc : s.account.claim = .none) (ha : s.account.announced = true) (party : Nat) :
    s.demand party = s.startClaim .demand (s.demandTotal party) := by
  rw [State.demand, if_pos hc, if_pos ha]

/-- A demand that finds a claim outstanding raises it (R68). -/
theorem State.demand_of_claim (hc : s.account.claim ≠ .none) (party : Nat) :
    s.demand party =
      (s.setAccount
        { s.account with
          claim := .demand
          wanted := max s.account.wanted (s.demandTotal party)
          waitTimer := .running 250 }).queueKind .claim :=
  if_neg hc

theorem exec_claimRepeatTimerExpiry (hr : s.account.repeatTimer.isRunning = true) (hc : s.account.claim ≠ .none) :
    exec .claimRepeatTimerExpiry s = .next
      ((s.setAccount { s.account with repeatTimer := .running 60 }).queueKind .claim) :=
  congrArg Host.Outcome.next (if_pos ⟨hr, hc⟩)

/-! ## Claims ended (R71, R91) -/

theorem exec_claimWaitTimerExpiry (hr : s.account.waitTimer.isRunning = true) (hc : s.account.claim ≠ .none) :
    exec .claimWaitTimerExpiry s = .next (settleClear s (s.endClaimWith .expired)) :=
  congrArg Host.Outcome.next (if_pos ⟨hr, hc⟩)

/-- A background claim reports nothing (R71). -/
theorem State.endClaimWith_of_background (hc : s.account.claim = .background) (cause : ClaimCause) :
    s.endClaimWith cause = s.dropClaim := by
  simp [State.endClaimWith, hc]

/-- A demand's report decides the presentation that waits in AWAIT_PLACES (R91). -/
theorem State.endClaimWith_of_demand (hc : s.account.claim = .demand) (hp : s.admission.record = some p)
    (hw : p.state = .awaitPlaces) (cause : ClaimCause) :
    s.endClaimWith cause =
      if p.party ≤ s.held then
        if (s.classRecord p.cls).holdTime = 0 then s.dropClaim.admitParty p.number p.party p.window
        else s.dropClaim.awaitLink p
      else s.dropClaim.refuse (if cause = .expired then .noGrant else .full) s.held := by
  have record : s.dropClaim.admission.record = some p := by simp [hp]
  rw [State.endClaimWith, if_pos hc, State.claimReport, record]
  exact if_pos hw

end AccountTimers

/-- Settles O54: one equation per timer and check; the wait timer splits by the claim's kind and the report's outcome. -/
theorem accountTimersExpire : Obligations.AccountTimersExpire := by
  refine ⟨?_, ?_, ?_, ?_, ?_, ?_⟩
  · intro s hr ho t
    rw [exec_orphanTimerExpiry hr ho, State.abandon_of_orphaned ho]
  · exact State.clearAccount_eq
  · intro s due
    exact ⟨fun h => if_pos (State.backgroundDue_iff.2 h), fun h => if_neg (mt State.backgroundDue_iff.1 h)⟩
  · rintro s party hk ha ⟨p, hp, hw⟩ total started
    rw [exec_keptDemandStart hk ha (State.awaitsPlaces_of_record hp hw)]
    exact ⟨fun hc => congrArg _ (State.demand_of_none (s := started) hc ha party),
      fun hc => congrArg _ (State.demand_of_claim (s := started) hc party)⟩
  · exact fun s => exec_claimRepeatTimerExpiry
  · intro s hr
    refine ⟨fun hc => ?_, fun hc p hp hw => ?_⟩
    · rw [exec_claimWaitTimerExpiry hr (by simp [hc]), State.endClaimWith_of_background hc]
      rfl
    · rw [exec_claimWaitTimerExpiry hr (by simp [hc]), State.endClaimWith_of_demand hc hp hw]
      refine ⟨fun enough now => ?_, fun enough later => ?_, fun short => ?_⟩
      · rw [if_pos enough, if_pos now]
        rfl
      · rw [if_pos enough, if_neg later]
        rfl
      · rw [if_neg (Nat.not_le.2 short)]
        rfl

end Sys2Proof.Machine
end

section
/-! SUPPORT. The window view at a gate: the vessel station's frames heard, and what leaving OPEN does (R57, R58, R60, R61, R72,
R100). -/

namespace Sys2Proof.Machine

section View

variable {s : State} {window : Byte} {body : List Byte}

/-! ## The vessel station's frames at a gate -/

/-- Who hears the vessel station is a gate, and hears on as one. -/
theorem State.hears.delivered_isGate (h : s.hears 0) : (s.delivered 0).isGate = true := by
  rw [State.isGate_iff, State.delivered_number]
  exact h.2.2.symm

theorem exec_offerFrame_ofVessel (h : s.hears 0) (hf : formatCheck .offer 0 window body = true) :
    exec (.offerFrame 0 window body) s = .next (settleClear s ((s.delivered 0).openShown window.toNat (wordAt body 0))) := by
  simp only [exec, execOfferFrame, hf, State.heard_of_hears s 0 _ h, h.delivered_isGate, if_true, State.offerHeard]

theorem exec_closeFrame_ofVessel (h : s.hears 0) (hf : formatCheck .close 0 window body = true) :
    exec (.closeFrame 0 window body) s = .next (settleClear s ((s.delivered 0).closeHeard window)) := by
  simp only [exec, execCloseFrame, hf, State.heard_of_hears s 0 _ h, h.delivered_isGate, if_true]

/-- A vessel STATUS without the egress flag is recorded, then taken by the window view (R40). -/
theorem exec_statusFrame_ofVessel (h : s.hears 0) (hf : formatCheck .status 0 window body = true)
    (he : statusEgressFlag body = false) :
    exec (.statusFrame 0 window body) s = .next (settleClear s
      (((s.delivered 0).recordStatus 0 window body).vesselStatusHeard window body)) := by
  have gate : (s.delivered 0).isVessel = false := by simpa [State.isGate] using h.delivered_isGate
  simp only [exec, execStatusFrame, hf, State.heard_of_hears s 0 _ h, State.statusHeard, gate, he, Bool.false_eq_true,
    if_true, if_false]

/-! ## The view after each frame -/

/-- What a frame that shows window `w` open does, by view state (R57, R58, R60). -/
theorem State.openShown_of_view {v : WindowView} (hv : s.view = v) (w offer : Nat) :
    s.openShown w offer =
      match v.state with
      | .none =>
        if w = v.lastTallied then s
        else
          ((s.setView { v with state := .opened, number := w }).clearAccount.raise .windowOpened w
            offer).statusTrigger
      | .opened => if w = v.number then s else s.viewClose
      | .orphaned =>
        if w = v.number then
          (s.setView { v with state := .opened, orphanTimer := .stopped }).raise .windowResumed w
        else s.viewClose
      | .closed => s := by
  subst hv
  unfold State.openShown
  cases s.view.state
  case orphaned =>
    dsimp only
    split
    next own => rw [own]; rfl
    next => rfl
  all_goals rfl

theorem State.closeHeard_of_inView (hv : s.view.state = .opened ∨ s.view.state = .orphaned)
    (hn : window.toNat = s.view.number) : s.closeHeard window = s.viewClose :=
  if_pos ⟨hv, hn.symm⟩

theorem State.closeHeard_of_other
    (h : ¬(s.view.state = .opened ∨ s.view.state = .orphaned) ∨ window.toNat ≠ s.view.number) : s.closeHeard window = s :=
  if_neg fun ⟨inView, own⟩ => h.elim (· inView) (· own.symm)

/-- A vessel STATUS that shows its window OPEN. -/
theorem State.vesselStatusHeard_of_open (h : natAt body 0 = 1) :
    s.vesselStatusHeard window body = s.openShown window.toNat (wordAt body 2) :=
  if_pos h

/-- Every other vessel STATUS, by view state. -/
theorem State.vesselStatusHeard_of_notOpen (h : natAt body 0 ≠ 1) :
    s.vesselStatusHeard window body =
      match s.view.state with
      | .none => if natAt body 0 = 0 then s.setView { s.view with lastTallied := 0 } else s
      | .opened | .orphaned => s.viewClose
      | .closed => s :=
  if_neg h

/-! ## The view leaves OPEN or ORPHANED (R58, R60) -/

/-- In CLOSED at a gate the finished report queues TALLY once (R61). -/
theorem State.tallyCheck_of_closed (hg : s.presence.number ≠ 0) (hc : s.view.state = .closed) :
    s.tallyCheck =
      if s.view.tallyPending = false ∧ s.lane.remaining = 0 ∧ s.lane.tracker.state = .none then
        (s.queueKind .tally).setView { s.view with tallyPending := true }
      else s := by
  simp [State.tallyCheck, State.isGate_iff.2 hg, hc, State.laneFinished]

/-- The view CLOSED, before the other blocks are told. -/
def State.viewClosed (s : State) : State :=
  (s.setView { s.view with state := .closed, orphanTimer := .stopped }).raise .windowClosed s.view.number

@[simp] theorem State.viewClosed_frame (s : State) :
    s.viewClosed.presence = s.presence ∧ s.viewClosed.link = s.link ∧ s.viewClosed.admission = s.admission ∧
      s.viewClosed.lane = s.lane ∧ s.viewClosed.view = { s.view with state := .closed, orphanTimer := .stopped } := by
  simp [State.viewClosed]

/-- What the hold check leaves of the fields that the finished report reads (R135). -/
@[simp] theorem State.holdCheck_report (s : State) :
    s.holdCheck.view = s.view ∧ s.holdCheck.lane.remaining = s.lane.remaining ∧
      s.holdCheck.lane.tracker = s.lane.tracker := by
  unfold State.holdCheck
  split <;> simp [State.holdEffective]

/-- What a refusal leaves of the fields that the finished report reads (R95). -/
@[simp] theorem State.refuse_report (s : State) (reason : Reason) (detail : Nat) :
    (s.refuse reason detail).view = s.view ∧ (s.refuse reason detail).lane.remaining = s.lane.remaining ∧
      (s.refuse reason detail).lane.tracker = s.lane.tracker := by
  unfold State.refuse
  split
  · simp
  · dsimp only
    split <;> simp

/-- The finished report of a view that has just closed, told by a state that keeps what the report reads. -/
theorem State.tallyCheck_of_viewClosed {x : State} (hg : s.presence.number ≠ 0) (hp : x.presence = s.presence := by simp)
    (hv : x.view = s.viewClosed.view := by simp) (hr : x.lane.remaining = s.lane.remaining := by simp)
    (ht : x.lane.tracker = s.lane.tracker := by simp) :
    x.tallyCheck =
      if s.view.tallyPending = false ∧ s.lane.remaining = 0 ∧ s.lane.tracker.state = .none then
        (x.queueKind .tally).setView { x.view with tallyPending := true }
      else x := by
  rw [State.tallyCheck_of_closed (hp ▸ hg) (by simp [hv]), hr, ht, hv]
  simp

theorem State.viewClose_of_orphaned (ho : s.view.state = .orphaned) : s.viewClose = s.viewClosed.tallyCheck := by
  simp [State.viewClose, State.viewClosed, ho]

/-- Leaving OPEN stops the presentation and ends the claim (R58, R72, R100). -/
theorem State.viewClose_of_opened (ho : s.view.state = .opened) :
    s.viewClose = (s.viewClosed.stopPresentation .windowClosed).endClaim.tallyCheck := by
  simp [State.viewClose, State.viewClosed, State.leftOpen, ho]

theorem State.stopPresentation_of_none (hp : s.admission.record = none) (cause : StopCause) :
    s.stopPresentation cause = s := by
  simp [State.stopPresentation, hp]

/-- A presentation whose TICKET is not SENDING is refused (R99). -/
theorem State.stopPresentation_of_notSending {p : Presentation} (hp : s.admission.record = some p)
    (hn : p.state = .awaitPlaces ∨ ∀ e ∈ s.link.queue, e.kind = .ticket → e.sending = false) (cause : StopCause) :
    s.stopPresentation cause = s.refuse cause.reason 0 := by
  have notStarted : ¬(p.state = .awaitLink ∧ s.ticketStarted = true) := by
    rintro ⟨awaiting, started⟩
    obtain ⟨e, he, kind, sending⟩ : ∃ e ∈ s.link.queue, e.kind = .ticket ∧ e.sending = true := by
      simpa [State.ticketStarted, State.isSending] using started
    rcases hn with hn | hn
    · simp [awaiting] at hn
    · simp [hn e he kind] at sending
  rw [State.stopPresentation, hp]
  exact if_neg notStarted

end View

/-- Settles O49: each frame by the view's state, then the three ways in which a view closes. -/
theorem viewFollowsTheVessel : Obligations.ViewFollowsTheVessel := by
  refine ⟨?_, ?_⟩
  · intro s window body hh d r w shown inView
    have view : d.view = s.view := by simp [d]
    have recorded : r.view = s.view := by simp [r, d]
    have shows (u : State) (hu : u.view = s.view) (offer : Nat) : u.openShown w offer = shown u offer :=
      State.openShown_of_view hu w offer
    refine ⟨fun hf => ?_, fun hf => ?_, fun hf he => ?_⟩
    · rw [exec_offerFrame_ofVessel hh hf, shows d view]
    · rw [exec_closeFrame_ofVessel hh hf]
      refine ⟨fun hv hn => ?_, fun hn => ?_⟩
      · rw [State.closeHeard_of_inView (view ▸ hv) (view ▸ hn)]
      · rw [State.closeHeard_of_other (view ▸ hn)]
    · rw [exec_statusFrame_ofVessel hh hf he]
      refine ⟨fun h1 => ?_, fun h1 hv => ?_, fun h0 hv => ?_, fun h1 hv => ?_, fun h2 hv => ?_⟩
      · rw [State.vesselStatusHeard_of_open h1, shows r recorded]
      · rw [State.vesselStatusHeard_of_notOpen h1, recorded]
        rcases hv with hv | hv <;> rw [hv]
      · rw [State.vesselStatusHeard_of_notOpen (by simp [h0]), recorded, hv, if_pos h0]
      · rw [State.vesselStatusHeard_of_notOpen h1, recorded, hv]
      · rw [State.vesselStatusHeard_of_notOpen (by simp [h2]), recorded, hv, if_neg (by simp [h2])]
  · intro u hg closed tallied
    refine ⟨fun ho => ?_, fun ho hp => ?_, fun ho p hp hn => ?_⟩
    · rw [State.viewClose_of_orphaned ho]
      exact State.tallyCheck_of_viewClosed hg
    · rw [State.viewClose_of_opened ho, State.stopPresentation_of_none (by simp [hp])]
      exact State.tallyCheck_of_viewClosed hg
    · rw [State.viewClose_of_opened ho,
        State.stopPresentation_of_notSending (s := u.viewClosed) (p := p) (by simp [hp]) (by simpa using hn)]
      exact State.tallyCheck_of_viewClosed hg

end Sys2Proof.Machine
end

section
/-! SUPPORT. A gate's STATUS and TALLY at the vessel station: the report of a gate in the current window, and the late tally (R50 to
R52, R55, R77, R78, R80). -/

namespace Sys2Proof.Machine

section Reports

variable {s : State} {g : Station} {window : Byte} {body : List Byte} {r : GateStatus} {row : GateRow}

/-! ## A gate's frames at the vessel station -/

theorem State.delivered_isVessel (hn : s.presence.number = 0) (g : Station) : (s.delivered g).isVessel = true := by
  rw [State.isVessel_iff, State.delivered_number, hn]

/-- A gate's STATUS without the egress flag is recorded, then taken by the window and place account units (R40). -/
theorem exec_statusFrame_ofGate (h : s.hears g) (hn : s.presence.number = 0)
    (hf : formatCheck .status g window body = true) (he : statusEgressFlag body = false) :
    exec (.statusFrame g window body) s = .next (settleClear s
      (((s.delivered g).recordStatus g window body).gateStatusHeard g window (GateStatus.ofBody body))) := by
  simp only [exec, execStatusFrame, hf, State.heard_of_hears s g _ h, State.statusHeard, State.delivered_isVessel hn, he,
    Bool.false_eq_true, if_true, if_false]

theorem exec_tallyFrame_ofGate (h : s.hears g) (hn : s.presence.number = 0)
    (hf : formatCheck .tally g window body = true) :
    exec (.tallyFrame g window body) s = .next ((s.delivered g).tallyHeard g window (GateStatus.ofTally body)) := by
  simp only [exec, execTallyFrame, hf, State.heard_of_hears s g _ h, State.delivered_isVessel hn, if_true]

theorem State.inWindow_iff : s.inWindow window = true ↔ s.vessel.state ≠ .none ∧ s.vessel.number = window.toNat := by
  simp [State.inWindow]

/-! ## One gate's row and the remainder (R50, R51, R80) -/

/-- A gate's row after its report, before the lost and grant-due marks: the larger of each count, the return taken, and the final
flag of a TALLY. -/
def GateRow.reported (row : GateRow) (r : GateStatus) (isFinal : Bool) : GateRow :=
  { row.takeCounts r with
    final := row.final || isFinal
    returned := max row.returned (min r.returned row.granted) }

/-- The vessel half with row `x` of gate g reported: what the row gives back goes to the remainder (R80). -/
def Vessel.reportRow (v : Vessel) (g : Station) (x : GateRow) (r : GateStatus) (isFinal : Bool) : Vessel :=
  { v.setRow g (x.reported r isFinal) with
    remainder := v.remainder + ((x.reported r isFinal).returned - x.returned) }

/-- A return of no more than was heard already gives nothing back (R80). -/
theorem Vessel.takeReturn_eq (v : Vessel) (g : Station) (n : Nat) :
    v.takeReturn g n =
      { v.setRow g { v.row g with returned := max (v.row g).returned (min n (v.row g).granted) } with
        remainder := v.remainder + (max (v.row g).returned (min n (v.row g).granted) - (v.row g).returned) } := by
  unfold Vessel.takeReturn
  dsimp only
  split
  next more => rw [max_eq_right more.le]
  next noMore =>
    rw [max_eq_left (Nat.le_of_not_lt noMore), Nat.sub_self]
    exact (v.setRow_row g).symm

/-- A return, then the counts of a STATUS (R50, R80). -/
theorem Vessel.takeReturn_takeCounts (v : Vessel) (g : Station) (r : GateStatus) :
    (v.takeReturn g r.returned).setRow g (((v.takeReturn g r.returned).row g).takeCounts r) =
      v.reportRow g (v.row g) r false := by
  rw [Vessel.takeReturn_eq]
  simp [Vessel.reportRow, GateRow.reported, GateRow.takeCounts, Vessel.setRow, Vessel.row]

/-- A return, then the counts and the final flag of a TALLY (R51, R80). -/
theorem Vessel.takeReturn_final (v : Vessel) (g : Station) (r : GateStatus) :
    (v.takeReturn g r.returned).setRow g { ((v.takeReturn g r.returned).row g).takeCounts r with final := true } =
      v.reportRow g (v.row g) r true := by
  rw [Vessel.takeReturn_eq]
  simp [Vessel.reportRow, GateRow.reported, GateRow.takeCounts, Vessel.setRow, Vessel.row]

/-- A row set before the report leaves no trace but in the row reported. -/
theorem Vessel.setRow_reportRow (v : Vessel) (g : Station) (x y : GateRow) (r : GateStatus) (isFinal : Bool) :
    (v.setRow g x).reportRow g y r isFinal = v.reportRow g y r isFinal := by
  simp [Vessel.reportRow, Vessel.setRow]

/-! ## The account-lost test and the repair of a lost GRANT (R77, R78) -/

/-- The report finds the account of gate g lost. -/
abbrev GateRow.newlyLost (row : GateRow) (r : GateStatus) : Prop :=
  row.lost = false ∧ (r.returned < row.returned ∨ r.paid < row.paid ∨ r.unpaid < row.unpaid)

/-- The report shows that a GRANT to gate g was lost. -/
abbrev GateRow.grantLost (row : GateRow) (r : GateStatus) : Prop :=
  row.lost = false ∧ ¬row.newlyLost r ∧ r.granted < row.granted

theorem GateRow.newlyLost_iff : (!row.lost && row.lostBy r) = true ↔ row.newlyLost r := by
  simp [GateRow.lostBy, or_assoc]

theorem State.accountLostTest_of_newlyLost (h : (s.vessel.row g).newlyLost r) :
    s.accountLostTest g r =
      (s.setVessel (s.vessel.setRow g { s.vessel.row g with lost := true, due := false })).raise .accountLost
        s.vessel.number g.toNat :=
  if_pos (GateRow.newlyLost_iff.2 h)

theorem State.accountLostTest_of_not_newlyLost (h : ¬(s.vessel.row g).newlyLost r) : s.accountLostTest g r = s :=
  if_neg (mt GateRow.newlyLost_iff.1 h)

/-- A lost account has no GRANT repaired (R77). -/
theorem State.repairGrant_of_lost (h : (s.vessel.row g).lost = true) : s.repairGrant g r = s := by
  simp [State.repairGrant, h]

/-- Outside a lost account the repair of R77 is made exactly when a GRANT was lost. -/
theorem State.repairGrant_of_not_newlyLost (h : ¬(s.vessel.row g).newlyLost r) :
    s.repairGrant g r = if (s.vessel.row g).grantLost r then s.markDue g else s := by
  simp [State.repairGrant, GateRow.grantLost, h]

/-! ## A report in the current window -/

/-- What a report of gate g in the current window makes of the vessel station, before the completion check: the row with its marks,
the remainder, ACCOUNT LOST, and the GRANT queued again on a STATUS. -/
def State.reportTaken (s : State) (g : Station) (r : GateStatus) (isFinal : Bool) : State :=
  let row := s.vessel.row g
  let newlyLost := row.newlyLost r
  let repaired := isFinal = false ∧ row.grantLost r
  let marked : GateRow :=
    { row with
      due := if newlyLost then false else if repaired then true else row.due
      lost := row.lost || decide newlyLost }
  let x := s.setVessel (s.vessel.reportRow g marked r isFinal)
  let y := if newlyLost then x.raise .accountLost s.vessel.number g.toNat else x
  if repaired then y.queueKind .grant else y

theorem State.reportTaken_of_newlyLost (h : (s.vessel.row g).newlyLost r) (isFinal : Bool) :
    s.reportTaken g r isFinal =
      (s.setVessel (s.vessel.reportRow g { s.vessel.row g with lost := true, due := false } r isFinal)).raise
        .accountLost s.vessel.number g.toNat := by
  have noRepair : ¬(isFinal = false ∧ (s.vessel.row g).grantLost r) := fun ⟨_, _, kept, _⟩ => kept h
  simp only [State.reportTaken, eq_true h, eq_false noRepair, if_true, if_false, decide_true, Bool.or_true]

theorem State.reportTaken_of_quiet (h : ¬(s.vessel.row g).newlyLost r) {isFinal : Bool}
    (hq : ¬(isFinal = false ∧ (s.vessel.row g).grantLost r)) :
    s.reportTaken g r isFinal = s.setVessel (s.vessel.reportRow g (s.vessel.row g) r isFinal) := by
  simp only [State.reportTaken, eq_false h, eq_false hq, if_false, decide_false, Bool.or_false]

theorem State.reportTaken_of_grantLost (h : (s.vessel.row g).grantLost r) :
    s.reportTaken g r false =
      (s.setVessel (s.vessel.reportRow g { s.vessel.row g with due := true } r false)).queueKind .grant := by
  have ⟨_, kept, _⟩ := h
  simp only [State.reportTaken, eq_true h, eq_false kept, and_self, if_true, if_false, decide_false, Bool.or_false]

@[simp] theorem State.reportTaken_vesselState (s : State) (g : Station) (r : GateStatus) (isFinal : Bool) :
    (s.reportTaken g r isFinal).vessel.state = s.vessel.state := by
  unfold State.reportTaken
  dsimp only
  repeat' split
  all_goals simp [Vessel.reportRow, Vessel.setRow]

/-- A gate's STATUS in the current window (R50, R77, R78, R80). -/
theorem State.gateStatusHeard_of_inWindow (h : s.inWindow window = true) :
    s.gateStatusHeard g window r = s.reportTaken g r false := by
  simp only [State.gateStatusHeard, h, if_true, Vessel.takeReturn_takeCounts]
  by_cases newly : (s.vessel.row g).newlyLost r
  · rw [State.accountLostTest_of_newlyLost newly, State.repairGrant_of_lost (by simp),
      State.reportTaken_of_newlyLost newly]
    simp only [State.raise_frame, State.setVessel_vessel, Vessel.row_setRow, Vessel.setRow_reportRow]
    rfl
  rw [State.accountLostTest_of_not_newlyLost newly, State.repairGrant_of_not_newlyLost newly]
  by_cases lost : (s.vessel.row g).grantLost r
  · rw [if_pos lost, State.reportTaken_of_grantLost lost]
    simp only [State.markDue, State.queueKind_frame, State.setVessel_vessel, Vessel.row_setRow, Vessel.setRow_reportRow]
    rfl
  · rw [if_neg lost, State.reportTaken_of_quiet newly (by simp [lost])]

/-- A gate's TALLY in the current window (R51, R52, R78, R80). -/
theorem State.tallyHeard_of_inWindow (h : s.inWindow window = true) :
    s.tallyHeard g window r = (s.reportTaken g r true).completionCheck := by
  simp only [State.tallyHeard, h, if_true, Vessel.takeReturn_final]
  by_cases newly : (s.vessel.row g).newlyLost r
  · rw [State.accountLostTest_of_newlyLost newly, State.reportTaken_of_newlyLost newly]
    simp only [State.raise_frame, State.setVessel_vessel, Vessel.row_setRow, Vessel.setRow_reportRow]
    rfl
  · rw [State.accountLostTest_of_not_newlyLost newly, State.reportTaken_of_quiet newly (by simp)]

/-! ## Reports outside the current window (R55) -/

theorem State.gateStatusHeard_of_outside (h : ¬ s.inWindow window = true) : s.gateStatusHeard g window r = s :=
  if_neg h

/-- Outside the current window a TALLY changes nothing while a window runs, and when no window is recorded. -/
theorem State.tallyHeard_of_outside (h : ¬ s.inWindow window = true)
    (hw : s.vessel.state ≠ .none ∨ s.vessel.record = none) : s.tallyHeard g window r = s := by
  rw [State.tallyHeard, if_neg h]
  split
  next noWindow => rw [hw.resolve_left (not_not_intro noWindow)]
  next => rfl

/-- In NONE a TALLY is a late tally when it names the recorded window. -/
theorem State.tallyHeard_of_recorded {c : ClosedWindow} (hw : s.vessel.state = .none) (hr : s.vessel.record = some c) :
    s.tallyHeard g window r = if c.window = window.toNat then s.lateTally c g r else s := by
  have outside : ¬ s.inWindow window = true := by simp [State.inWindow, hw]
  rw [State.tallyHeard, if_neg outside, if_pos hw, hr]

/-- A late tally, with OVER CAPACITY judged on the onboard count that it leaves. -/
theorem State.lateTally_eq (s : State) (c : ClosedWindow) (g : Station) (r : GateStatus) :
    s.lateTally c g r =
      let onboard := min (s.vessel.onboard + (r.paid + r.unpaid) - ((c.row g).paid + (c.row g).unpaid)) 65535
      let late := (s.setVessel
          { s.vessel with
            onboard := onboard
            record := some (c.setRow g
              { paid := r.paid, unpaid := r.unpaid, excess := r.excess, final := true }) }).raise .lateTally
        c.window g.toNat (r.paid + r.unpaid)
      if s.config.capacity < onboard then late.raise .overCapacity onboard s.config.capacity else late :=
  rfl

end Reports

/-- Settles O51: both frames by window; in the window by the account-lost test and the repair, after it by the recorded window. -/
theorem gateReportsAreTaken : Obligations.GateReportsAreTaken := by
  intro s g window body hh hn inWindow row taken
  have here : s.inWindow window = true ↔ inWindow := State.inWindow_iff
  have takes (u : State) (hu : u.vessel = s.vessel) (r : GateStatus) (isFinal : Bool) :
      u.reportTaken g r isFinal = taken u r isFinal := by
    simp only [State.reportTaken, hu]
    rfl
  refine ⟨fun hf he => ?_, fun hf => ?_⟩
  · intro r
    have vessel : r.vessel = s.vessel := by simp [r]
    have there : r.inWindow window = s.inWindow window := by rw [State.inWindow, vessel]; rfl
    rw [exec_statusFrame_ofGate hh hn hf he]
    refine ⟨fun outside => ?_, fun inside => ?_⟩
    · rw [State.gateStatusHeard_of_outside (there ▸ mt here.1 outside)]
    · rw [State.gateStatusHeard_of_inWindow (there ▸ here.2 inside), takes r vessel]
      rfl
  · intro d r
    have vessel : d.vessel = s.vessel := by simp [d]
    have config : d.config = s.config := by simp [d]
    have there : d.inWindow window = s.inWindow window := by rw [State.inWindow, vessel]; rfl
    rw [exec_tallyFrame_ofGate hh hn hf]
    refine ⟨fun inside => ?_, fun outside hw => ?_, fun hw c hr => ⟨fun other => ?_, fun own => ?_⟩⟩
    · intro t
      rw [State.tallyHeard_of_inWindow (there ▸ here.2 inside), State.completionCheck_eq,
        State.reportTaken_vesselState, vessel, takes d vessel]
      rfl
    · rw [State.tallyHeard_of_outside (there ▸ mt here.1 outside) (vessel ▸ hw)]
    · rw [State.tallyHeard_of_recorded (vessel ▸ hw) (vessel ▸ hr), if_neg other]
    · rw [State.tallyHeard_of_recorded (vessel ▸ hw) (vessel ▸ hr), if_pos own, State.lateTally_eq, vessel, config]
      rfl

end Sys2Proof.Machine
end

section
/-! SUPPORT. From commands to steps: what every command makes of a state, every step makes of it; a byte of the host port comes down to
the request that it completes (R183, R184). -/

namespace Sys2Proof.Machine

/-- A command answers a state with property `Q`. -/
def AnswersWith (Q : State → Prop) (o : Host.Outcome State Fault Refusal) : Prop := ∃ t, o = .next t ∧ Q t

variable {P Q : State → Prop} {s t : State}

theorem AnswersWith.next (h : Q t) : AnswersWith Q (.next t) := ⟨t, rfl, h⟩

/-- The ends of a conversion's phases, by the plate in the phase (R147 to R149). -/
theorem AnswersWith.phaseEnd (turn : Option PlateId) {act : PlateId → State} (h : Q s) (ha : ∀ p, Q (act p)) :
    AnswersWith Q (.next (match turn with | none => s | some p => act p)) := by
  cases turn
  · exact .next h
  · exact .next (ha _)

/-- A step keeps what its command keeps on the state with the rest of the queue. -/
theorem AnswersWith.of_step (hstep : step s = .next t) (idle : s.pending = [] → Q s)
    (taken : ∀ c rest, s.pending = c :: rest → AnswersWith Q (exec c (s.setPending rest))) : Q t := by
  unfold step at hstep
  split at hstep
  next hp =>
    cases hstep
    exact idle hp
  next c rest hp =>
    obtain ⟨u, hu, hQ⟩ := taken c rest hp
    cases hu.symm.trans hstep
    exact hQ

/-- A byte of the host port keeps what the port's own changes and the requests keep. -/
theorem execHostByteCompleted_answersWith (b : Byte) (weaker : ∀ s, P s → Q s) (port : ∀ s x, P s → P (s.setPort x))
    (request : ∀ m c s, requestOf m = some c → P s → AnswersWith Q (exec c s)) (h : P s) :
    AnswersWith Q (execHostByteCompleted b s) := by
  have kept (x : HostPort) : AnswersWith Q (.next (s.setPort x)) := .next (weaker _ (port s x h))
  have handed (x : HostPort) (m : List Byte) : AnswersWith Q (handRequest m (s.setPort x)) := by
    rw [handRequest_eq]
    cases hr : requestOf m with
    | none => exact .next (weaker _ (port _ _ (port s x h)))
    | some c => exact request m c _ hr (port s x h)
  have received : AnswersWith Q (s.receiveByte b) := by
    unfold State.receiveByte
    dsimp only
    split
    · split
      · exact .next (weaker _ (port _ _ (port s _ h)))
      · exact handed _ _
    · exact kept _
  unfold execHostByteCompleted
  split
  · split
    · exact received
    · exact received
    · exact kept _
    · exact kept _
  · exact .next (weaker s h)

/-- A request is taken, refused or held off (R184, R185). -/
theorem State.takeRequest_keeps {role : RequestRole} {body : State → State × Reply} (held : Q s)
    (port : ∀ s x, Q s → Q (s.setPort x)) (taken : s.hasRole role = true → Q (body s).1) : Q (s.takeRequest role body) := by
  unfold State.takeRequest
  split
  · split
    next hr => exact port _ _ (taken hr)
    next => exact port _ _ held
  · exact held

/-! ## What the bodies of requests leave alone -/

/-- `t` differs from `s` in the host port, the configuration and the events alone. -/
@[simp] abbrev OnlyHost (s t : State) : Prop :=
  t.link = s.link ∧ t.presence = s.presence ∧ t.vessel = s.vessel ∧ t.view = s.view ∧ t.account = s.account ∧
    t.admission = s.admission ∧ t.list = s.list ∧ t.lane = s.lane ∧ t.converter = s.converter ∧
    t.barrier = s.barrier ∧ t.egress = s.egress ∧ t.pending = s.pending

@[simp] theorem State.takeConfigure_frame (b : List Byte) (s : State) : OnlyHost s (State.takeConfigure b s).1 := by
  unfold State.takeConfigure
  repeat' split
  all_goals simp

@[simp] theorem State.takeQuery_frame (page : Byte) (s : State) : OnlyHost s (State.takeQuery page s).1 := by
  unfold State.takeQuery
  dsimp only
  repeat' split
  all_goals simp

@[simp] theorem State.takeLookup_frame (key : TicketKey) (s : State) : OnlyHost s (State.takeLookup key s).1 := by
  unfold State.takeLookup
  dsimp only
  split <;> simp

@[simp] theorem State.takeReadEvent_frame (s : State) : OnlyHost s s.takeReadEvent.1 := by
  unfold State.takeReadEvent
  split <;> simp

@[simp] theorem State.takePeekEvent_frame (s : State) : OnlyHost s s.takePeekEvent.1 := by
  unfold State.takePeekEvent
  split <;> simp

@[simp] theorem State.takeSetMask_frame (mask : Byte) (s : State) : OnlyHost s (State.takeSetMask mask s).1 := by
  unfold State.takeSetMask
  split <;> simp

@[simp] theorem State.takeHold_frame (s : State) : OnlyDesk s s.takeHold.1 := by
  unfold State.takeHold
  dsimp only
  repeat' split
  all_goals simp

@[simp] theorem State.takeRelease_frame (s : State) : OnlyDesk s s.takeRelease.1 := by
  unfold State.takeRelease
  split <;> [skip; split] <;> simp

@[simp] theorem State.takeCancel_frame (number : Byte) (s : State) : OnlyDesk s (State.takeCancel number s).1 := by
  unfold State.takeCancel
  repeat' split
  all_goals simp

@[simp] theorem State.takePresent_frame (key : TicketKey) (cls party : Byte) (s : State) :
    OnlyGateway s (State.takePresent key cls party s).1 := by
  unfold State.takePresent
  split <;> simp

@[simp] theorem State.takeLaneMode_frame (mode : Byte) (s : State) : OnlyGateway s (State.takeLaneMode mode s).1 := by
  unfold State.takeLaneMode
  split <;> [skip; split <;> [skip; split]] <;> simp

end Sys2Proof.Machine
end

section
/-! SUPPORT. The places of a window (R73): what each operation of the vessel station makes of the offer, the remainder and the gates'
grants, with the proof that every step keeps their sum. -/

namespace Sys2Proof.Machine

/-! ## One gate's row -/

/-- What a sum over a list gains with an entry it loses with the entry that it stands for. -/
theorem sum_map_set {α : Type} (f : α → Nat) (x : α) :
    ∀ (l : List α) (i : Nat) (h : i < l.length), ((l.set i x).map f).sum + f l[i] = (l.map f).sum + f x
  | [], _, h => absurd h (Nat.not_lt_zero _)
  | a :: l, 0, _ => by simp; omega
  | a :: l, i + 1, h => by
    have ih := sum_map_set f x l i (by simpa using h)
    simp only [List.set_cons_succ, List.map_cons, List.sum_cons, List.getElem_cons_succ]
    omega

theorem Vessel.gates_setRow (v : Vessel) (g : Station) (x : GateRow) :
    (v.setRow g x).gates.toList = v.gates.toList.set (g.toNat - 1) x :=
  Vector.toList_set (by have := g.isLt; omega)

theorem Vessel.row_index (v : Vessel) (g : Station) : g.toNat - 1 < v.gates.toList.length := by
  have := g.isLt
  simp
  omega

theorem Vessel.row_eq (v : Vessel) (g : Station) : v.row g = v.gates.toList[g.toNat - 1]'(v.row_index g) := by
  simp [Vessel.row]

/-- A sum over the gates gains what row `x` holds and loses what the row of gate g held. -/
theorem Vessel.sum_setRow (f : GateRow → Nat) (v : Vessel) (g : Station) (x : GateRow) :
    ((v.setRow g x).gates.toList.map f).sum + f (v.row g) = (v.gates.toList.map f).sum + f x := by
  rw [v.gates_setRow, v.row_eq]
  exact sum_map_set f x _ _ _

/-- Tables that agree on `f` row by row agree on its list of values. -/
theorem map_gates_congr {gates table : Vector GateRow 15} (f : GateRow → Nat)
    (h : ∀ i (hi : i < 15), f table[i] = f gates[i]) : table.toList.map f = gates.toList.map f := by
  refine List.ext_getElem (by simp) fun i hi _ => ?_
  rw [List.getElem_map, List.getElem_map, Vector.getElem_toList, Vector.getElem_toList]
  exact h i (by simpa using hi)

namespace Vessel.placesAddUp

variable {v w : Vessel} {s t : State}

/-! ## Updates of the vessel half (R74, R76, R80) -/

/-- The row of gate g replaced: what it gains in places the remainder loses. -/
theorem rowReplaced (h : v.placesAddUp) {g : Station} {x : GateRow} (hg : w.gates = (v.setRow g x).gates)
    (hs : w.state = v.state) (ho : w.offer = v.offer)
    (hr : w.remainder + x.granted + (v.row g).returned = v.remainder + (v.row g).granted + x.returned)
    (hx : (v.row g).returned ≤ (v.row g).granted → x.returned ≤ x.granted) : w.placesAddUp := by
  rcases h with none | ⟨sum, bounded⟩
  · exact .inl (hs.trans none)
  · have granted := v.sum_setRow GateRow.granted g x
    have returned := v.sum_setRow GateRow.returned g x
    rw [← hg] at granted returned
    refine .inr ⟨by omega, fun y hy => ?_⟩
    rw [hg, v.gates_setRow] at hy
    rcases List.mem_or_eq_of_mem_set hy with hy | rfl
    · exact bounded y hy
    · exact hx (bounded _ (v.row_eq g ▸ List.getElem_mem _))

/-- A row replaced by one with the same places. -/
theorem setRow (h : v.placesAddUp) (g : Station) {x : GateRow} (hg : x.granted = (v.row g).granted)
    (hr : x.returned = (v.row g).returned) : (v.setRow g x).placesAddUp :=
  h.rowReplaced rfl rfl rfl (by simp only [Vessel.setRow]; omega) (by omega)

theorem grant (h : v.placesAddUp) (g : Station) (wanted : Nat) : (v.grant g wanted).placesAddUp :=
  h.rowReplaced rfl rfl rfl (by simp only [Vessel.grant]; omega) fun _ => by dsimp only; omega

theorem reportRow (h : v.placesAddUp) (g : Station) {x : GateRow} (hg : x.granted = (v.row g).granted)
    (hr : x.returned = (v.row g).returned) (r : GateStatus) (isFinal : Bool) :
    (v.reportRow g x r isFinal).placesAddUp := by
  refine h.rowReplaced (x := x.reported r isFinal) rfl rfl rfl ?_ ?_ <;>
    simp only [Vessel.reportRow, GateRow.reported, GateRow.takeCounts] <;> omega

/-- A table in which every gate has its places. -/
theorem gatesReplaced (h : v.placesAddUp) {table : Vector GateRow 15} (served : Nat)
    (hg : ∀ i (hi : i < 15), table[i].granted = v.gates[i].granted)
    (hr : ∀ i (hi : i < 15), table[i].returned = v.gates[i].returned) :
    ({ v with gates := table, lastServed := served } : Vessel).placesAddUp := by
  rcases h with none | ⟨sum, bounded⟩
  · exact .inl none
  · refine .inr ⟨?_, fun y hy => ?_⟩
    · dsimp only
      rw [map_gates_congr GateRow.granted hg, map_gates_congr GateRow.returned hr]
      exact sum
    · obtain ⟨i, hi, rfl⟩ := List.mem_iff_getElem.1 hy
      have before := bounded (v.gates.toList[i]'(by simpa using hi)) (List.getElem_mem _)
      rw [Vector.getElem_toList] at before ⊢
      rw [hg, hr]
      exact before

/-- Marks cleared leave every gate its places (R76). -/
theorem clearDue (h : v.placesAddUp) (named : List Nat) (served : Nat) :
    ({ v.clearDue named with lastServed := served } : Vessel).placesAddUp := by
  unfold Vessel.clearDue
  refine h.gatesReplaced served (fun i hi => ?_) fun i hi => ?_ <;> rw [Vector.getElem_ofFn] <;> split <;> rfl

/-- A new window offers what its remainder holds, and no gate holds a place (R45). -/
theorem openedWith (v : Vessel) (offer : Nat) : ({ v.openedWith offer with state := .opened } : Vessel).placesAddUp := by
  refine .inr ⟨?_, ?_⟩ <;> simp [Vessel.openedWith, GateRow.afterReset]

theorem completed (v : Vessel) : v.completed.placesAddUp := .inl rfl

/-! ## Operations of the window unit and the place account unit -/

theorem of_eq (h : s.vessel.placesAddUp) (ht : t.vessel = s.vessel) : t.vessel.placesAddUp := ht ▸ h

theorem ite {p : Prop} [Decidable p] (hs : s.vessel.placesAddUp) (ht : t.vessel.placesAddUp) :
    (if p then s else t).vessel.placesAddUp := by
  split
  · exact hs
  · exact ht

theorem setLink (h : s.vessel.placesAddUp) (x : Link) : (s.setLink x).vessel.placesAddUp := h
theorem setPresence (h : s.vessel.placesAddUp) (x : Presence) : (s.setPresence x).vessel.placesAddUp := h
theorem setLane (h : s.vessel.placesAddUp) (x : Lane) : (s.setLane x).vessel.placesAddUp := h
theorem setConverter (h : s.vessel.placesAddUp) (x : Converter) : (s.setConverter x).vessel.placesAddUp := h
theorem setBarrier (h : s.vessel.placesAddUp) (x : Barrier) : (s.setBarrier x).vessel.placesAddUp := h
theorem setEgress (h : s.vessel.placesAddUp) (x : Egress) : (s.setEgress x).vessel.placesAddUp := h
theorem raise (h : s.vessel.placesAddUp) (k : EventKind) (a b c : Nat) : (s.raise k a b c).vessel.placesAddUp := h

theorem completeWindow (s : State) (c : Bool) : (s.completeWindow c).vessel.placesAddUp := by
  have none : (s.completeWindow c).vessel.state = .none := by simp [State.completeWindow]
  exact .inl none

theorem completionCheck (h : s.vessel.placesAddUp) : s.completionCheck.vessel.placesAddUp := .ite (.completeWindow s _) h

theorem closeWindow (h : s.vessel.placesAddUp) (c : CloseCause) : (s.closeWindow c).vessel.placesAddUp := by
  by_cases ho : s.vessel.state = .opened
  · rw [State.closeWindow_of_opened ho]
    refine completionCheck ?_
    rw [State.windowClosing_vessel]
    exact .inr (h.resolve_left (by simp [ho]))
  · rwa [State.closeWindow_of_not_opened ho]

theorem takeOpenWindow (h : s.vessel.placesAddUp) : s.takeOpenWindow.1.vessel.placesAddUp := by
  unfold State.takeOpenWindow
  split
  · exact h
  split
  · exact h
  · refine of_eq (s := s.setVessel _) (openedWith s.vessel (s.config.capacity - s.vessel.onboard)) ?_
    simp

theorem takeSetOnboard (h : s.vessel.placesAddUp) (n : Word16) : (State.takeSetOnboard n s).1.vessel.placesAddUp := by
  unfold State.takeSetOnboard
  split
  · exact of_eq (s := s.setVessel { s.vessel with onboard := n.toNat }) h (by simp)
  · exact h

theorem reportTaken (h : s.vessel.placesAddUp) (g : Station) (r : GateStatus) (isFinal : Bool) :
    (s.reportTaken g r isFinal).vessel.placesAddUp := by
  unfold State.reportTaken
  dsimp only
  generalize hm : ({ s.vessel.row g with due := _, lost := _ } : GateRow) = marked
  have reported : (s.setVessel (s.vessel.reportRow g marked r isFinal)).vessel.placesAddUp :=
    h.reportRow g (hm ▸ rfl) (hm ▸ rfl) r isFinal
  exact .ite (.ite reported reported) (.ite reported reported)

theorem gateStatusHeard (h : s.vessel.placesAddUp) (g : Station) (w : Byte) (r : GateStatus) :
    (s.gateStatusHeard g w r).vessel.placesAddUp := by
  by_cases hw : s.inWindow w = true
  · rw [State.gateStatusHeard_of_inWindow hw]
    exact h.reportTaken g r false
  · rwa [State.gateStatusHeard_of_outside hw]

theorem lateTally (h : s.vessel.placesAddUp) (c : ClosedWindow) (g : Station) (r : GateStatus) :
    (s.lateTally c g r).vessel.placesAddUp := by
  rw [State.lateTally_eq]
  exact .ite h h

theorem tallyHeard (h : s.vessel.placesAddUp) (g : Station) (w : Byte) (r : GateStatus) :
    (s.tallyHeard g w r).vessel.placesAddUp := by
  by_cases hw : s.inWindow w = true
  · rw [State.tallyHeard_of_inWindow hw]
    exact (h.reportTaken g r true).completionCheck
  rw [State.tallyHeard, if_neg hw]
  split
  · split
    · exact .ite (h.lateTally _ g r) h
    · exact h
  · exact h

theorem markDue (h : s.vessel.placesAddUp) (g : Station) : (s.markDue g).vessel.placesAddUp :=
  h.setRow g (x := { s.vessel.row g with due := true }) rfl rfl

theorem claimHeard (h : s.vessel.placesAddUp) (g : Station) (w : Byte) (n : Nat) :
    (s.claimHeard g w n).vessel.placesAddUp := by
  have granted : ((s.setVessel (s.vessel.grant g n)).markDue g).vessel.placesAddUp :=
    markDue (s := s.setVessel _) (h.grant g n) g
  exact .ite (.ite granted granted) h

theorem requeueGrant (h : s.vessel.placesAddUp) : s.requeueGrant.vessel.placesAddUp := of_eq h (by simp)

theorem grantCompleted (h : s.vessel.placesAddUp) (f : Frame) : (s.grantCompleted f).vessel.placesAddUp := by
  have cleared (named : List Nat) (served : Nat) :
      (s.setVessel { s.vessel.clearDue named with lastServed := served }).vessel.placesAddUp := h.clearDue named served
  exact .ite (cleared _ _).requeueGrant h

/-! ## Operations of other blocks that reach the vessel half -/

theorem alight (h : s.vessel.placesAddUp) : s.alight.vessel.placesAddUp := by
  unfold State.alight
  dsimp only
  split <;> exact h

theorem passageComplete (h : s.vessel.placesAddUp) (d : Direction) (multiple : Bool) :
    (s.passageComplete d multiple).vessel.placesAddUp := by
  cases d
  · exact .ite h (.ite (of_eq h (by simp)) h)
  · exact .ite h (.ite h h.alight)

theorem tallyCheck (h : s.vessel.placesAddUp) : s.tallyCheck.vessel.placesAddUp := of_eq h (by simp)

theorem trackerChange (h : s.vessel.placesAddUp) (p : PlateId) (old : PlateClass) :
    (s.trackerChange p old).vessel.placesAddUp := by
  unfold State.trackerChange
  dsimp only
  split
  · split
    · exact h
    · split
      · split
        · exact of_eq h (by simp)
        · exact (((h.setLane _).passageComplete _ _).setLane _).tallyCheck
      · split
        · exact h
        · exact (h.setLane _).passageComplete _ _
  · exact h

theorem deliverClass (h : s.vessel.placesAddUp) (p : PlateId) (old : PlateClass) :
    (s.deliverClass p old).vessel.placesAddUp := by
  have told : ((s.alightOpen p old).loiterChange p old).vessel.placesAddUp := of_eq h (by simp)
  exact .ite (of_eq (told.trackerChange p old) (by simp)) (told.trackerChange p old)

theorem settleCheck (h : s.vessel.placesAddUp) : s.settleCheck.vessel.placesAddUp := of_eq h (by simp)

theorem goodConversion (h : s.vessel.placesAddUp) (p : PlateId) (r : Nat) : (s.goodConversion p r).vessel.placesAddUp :=
  (ite (h.setConverter _) ((h.setConverter _).deliverClass _ _)).settleCheck

theorem unarmTracker (h : s.vessel.placesAddUp) : s.unarmTracker.vessel.placesAddUp := of_eq h (by simp)

theorem reportFault (h : s.vessel.placesAddUp) (c : FaultCause) : (s.reportFault c).vessel.placesAddUp := of_eq h (by simp)

theorem plateFault (h : s.vessel.placesAddUp) (p : PlateId) (k : ConversionResult) :
    (s.plateFault p k).vessel.placesAddUp :=
  (raise (ite ((h.setConverter _).unarmTracker.setLane _) (((h.setConverter _).unarmTracker.setLane _).deliverClass _ _))
    _ _ _ _).reportFault _

theorem badConversion (h : s.vessel.placesAddUp) (p : PlateId) (k : ConversionResult) :
    (s.badConversion p k).vessel.placesAddUp :=
  .ite ((h.setConverter _).plateFault p k) (h.setConverter _)

theorem clearFaults (h : s.vessel.placesAddUp) : s.clearFaults.1.vessel.placesAddUp := by
  have cleared : s.clearPlateFaults.vessel = s.vessel := rfl
  refine of_eq h ?_
  unfold State.clearFaults
  dsimp only
  repeat' split
  all_goals simp [cleared]

theorem restartLane (h : s.vessel.placesAddUp) : s.restartLane.1.vessel.placesAddUp := by
  refine of_eq h ?_
  unfold State.restartLane
  dsimp only
  repeat' split
  all_goals simp

/-! ## Egress and the good frames -/

theorem enterEgress (h : s.vessel.placesAddUp) (o : EgressOrigin) (g : Station) :
    (s.enterEgress o g).vessel.placesAddUp := by
  have told {x : State} (hx : x.vessel = s.vessel) : (x.closeWindow .egress).egressStatus.vessel.placesAddUp :=
    of_eq (s := x.closeWindow .egress) (closeWindow (hx ▸ h) _) (by simp)
  exact told (by simp)

theorem queueEvacuation (h : s.vessel.placesAddUp) (k : FrameKind) : (s.queueEvacuation k).vessel.placesAddUp := h

theorem enterOwnEgress (h : s.vessel.placesAddUp) : s.enterOwnEgress.vessel.placesAddUp :=
  (h.enterEgress _ _).queueEvacuation _

theorem inputRaised (h : s.vessel.placesAddUp) : s.inputRaised.vessel.placesAddUp :=
  .ite h (.ite (.ite h h) h.enterOwnEgress)

theorem takeStart (h : s.vessel.placesAddUp) : s.takeStart.1.vessel.placesAddUp := by
  have started {u : State} (hu : u.vessel.placesAddUp) :
      (if u.egress.input then u.enterOwnEgress else u).vessel.placesAddUp := .ite hu.enterOwnEgress hu
  unfold State.takeStart
  split
  · exact started (of_eq h (by simp))
  · exact h

theorem takeEgressEnd (h : s.vessel.placesAddUp) : s.takeEgressEnd.1.vessel.placesAddUp := by
  unfold State.takeEgressEnd
  split
  · exact h
  split
  · exact of_eq h (by simp)
  · exact h

theorem statusHeard (h : s.vessel.placesAddUp) (g : Station) (w : Byte) (b : List Byte) :
    (State.statusHeard g w b s).vessel.placesAddUp := by
  have recorded : (s.recordStatus g w b).vessel.placesAddUp := h
  have taken : (if s.isVessel then (s.recordStatus g w b).gateStatusHeard g w (GateStatus.ofBody b)
      else if g = 0 then (s.recordStatus g w b).vesselStatusHeard w b else s.recordStatus g w b).vessel.placesAddUp :=
    .ite (recorded.gateStatusHeard g w _) (.ite (of_eq recorded (by simp)) recorded)
  exact .ite (.ite taken (taken.enterEgress _ _)) taken

theorem heard (h : s.vessel.placesAddUp) (g : Station) (passes : Bool) {deliver : State → State}
    (hd : ∀ t, t.vessel.placesAddUp → (deliver t).vessel.placesAddUp) : (s.heard g passes deliver).vessel.placesAddUp := by
  have told : (((s.frameTaken g).heardAtStation g).peerHeard g).vessel.placesAddUp := of_eq h (by simp)
  exact .ite h (.ite (.ite (hd _ told) told) h)

theorem serveDeferred (h : s.vessel.placesAddUp) : s.serveDeferred.vessel.placesAddUp := h

theorem closeCommand (h : s.vessel.placesAddUp) : s.closeCommand.vessel.placesAddUp := of_eq h (by simp)

theorem viewOrphan (h : s.vessel.placesAddUp) : s.viewOrphan.vessel.placesAddUp := of_eq h (by simp)

theorem lose (h : s.vessel.placesAddUp) : s.lose.vessel.placesAddUp := of_eq h (by simp)

theorem ownerCompleted (h : s.vessel.placesAddUp) (e : TxEntry) (f : Frame) :
    (s.ownerCompleted e f).vessel.placesAddUp := by
  unfold State.ownerCompleted
  split
  case h_2 => exact h.grantCompleted f
  all_goals exact of_eq h (by simp)

/-! ## Requests -/

theorem takeRequest (h : s.vessel.placesAddUp) {role : RequestRole} {body : State → State × Reply}
    (hb : (body s).1.vessel.placesAddUp) : (s.takeRequest role body).vessel.placesAddUp :=
  State.takeRequest_keeps (Q := fun t => t.vessel.placesAddUp) h (fun _ _ ht => ht) fun _ => hb

/-- A request whose meaning leaves the vessel half alone. -/
theorem takeRequest_of_eq (h : s.vessel.placesAddUp) {role : RequestRole} {body : State → State × Reply}
    (hb : (body s).1.vessel = s.vessel) : (s.takeRequest role body).vessel.placesAddUp :=
  h.takeRequest (of_eq h hb)

theorem settleClear (h : t.vessel.placesAddUp) (s : State) : (settleClear s t).vessel.placesAddUp := of_eq h (by simp)

theorem takeCloseWindow (h : s.vessel.placesAddUp) : s.takeCloseWindow.1.vessel.placesAddUp := by
  unfold State.takeCloseWindow
  split
  · exact h.closeWindow _
  · exact h

end Vessel.placesAddUp

/-! ## Every command -/

section

open Vessel.placesAddUp

variable {s t : State}

/-- A command answers a state whose places add up. -/
abbrev PlacesAfter (o : Host.Outcome State Fault Refusal) : Prop := AnswersWith (fun t => t.vessel.placesAddUp) o

theorem execHostSessionEnd_placesAfter (h : s.vessel.placesAddUp) (straps : Station) :
    PlacesAfter (execHostSessionEnd straps s) :=
  .next (.ite (.ite (.ite (.inl rfl) h) (.ite h h)) h)

theorem execOwnFrameComplete_placesAfter (h : s.vessel.placesAddUp) : PlacesAfter (execOwnFrameComplete s) := by
  refine .next ?_
  split
  · exact h
  · exact .ite (((h.setLink _).ownerCompleted _ _).serveDeferred.settleClear s) h

theorem execTransmitStart_placesAfter (h : s.vessel.placesAddUp) (slots : Nat) :
    PlacesAfter (execTransmitStart slots s) := by
  refine .next ?_
  split
  · exact h
  · exact .ite (of_eq h (by simp)) h

theorem execReadbackFault_placesAfter (h : s.vessel.placesAddUp) : PlacesAfter (execReadbackFault s) := by
  refine .next ?_
  split
  · exact h
  · exact .ite (of_eq h (by simp)) h

theorem execKeptDemandStart_placesAfter (h : s.vessel.placesAddUp) : PlacesAfter (execKeptDemandStart s) := by
  refine .next ?_
  split
  · exact .ite (of_eq h (by simp)) h
  · exact h

theorem execRequestFailsMessageCheck_placesAfter (h : s.vessel.placesAddUp) (m : List Byte) :
    PlacesAfter (execRequestFailsMessageCheck m s) := by
  refine .next ?_
  split
  · split <;> exact h
  · exact h

theorem execSilenceTimerExpiry_placesAfter (h : s.vessel.placesAddUp) (peer : Station) :
    PlacesAfter (execSilenceTimerExpiry peer s) := by
  have lost : (s.peerSilent peer).vessel.placesAddUp := h
  exact .next (.ite (.settleClear (.ite lost.viewOrphan lost) s) h)

theorem execClearTimerExpiry_placesAfter (h : s.vessel.placesAddUp) : PlacesAfter (execClearTimerExpiry s) :=
  .next (.ite (of_eq h (by simp)) h)

theorem execTrackerArm_placesAfter (h : s.vessel.placesAddUp) : PlacesAfter (execTrackerArm s) :=
  .next (.ite (.settleClear (.ite (h.setLane _).closeCommand (h.setLane _)) s) h)

theorem execEndSwitchActive_placesAfter (h : s.vessel.placesAddUp) (e : EndId) : PlacesAfter (execEndSwitchActive e s) :=
  .next (.ite h (of_eq h (by simp)))

theorem execTravelTimerExpiry_placesAfter (h : s.vessel.placesAddUp) : PlacesAfter (execTravelTimerExpiry s) :=
  .next (.ite (of_eq h (by simp)) h)

theorem execPauseTimerExpiry_placesAfter (h : s.vessel.placesAddUp) : PlacesAfter (execPauseTimerExpiry s) :=
  .next (.ite (of_eq h (by simp)) h)

theorem execPendingCloseTaken_placesAfter (h : s.vessel.placesAddUp) : PlacesAfter (execPendingCloseTaken s) :=
  .next (.ite (of_eq h (by simp)) h)

theorem execStall_placesAfter (h : s.vessel.placesAddUp) : PlacesAfter (execStall s) :=
  .next (.ite (.settleClear (.ite (of_eq h (by simp)) (of_eq h (by simp))) s) h)

/-- Every command but a byte of the host port keeps the places. -/
theorem exec_placesAfter_of_ne_byte (c : Instr) (hc : ∀ b, c ≠ .hostByteCompleted b) (h : s.vessel.placesAddUp) :
    PlacesAfter (exec c s) := by
  cases c with
  | fullReset straps => exact .next (.inl rfl)
  | hostSessionEnd straps => exact execHostSessionEnd_placesAfter h straps
  | replyReady => exact .next (.ite h h)
  | identify | reset | configure _ | lookup _ | query _ | readEvent | peekEvent | setMask _ =>
    exact .next (h.takeRequest_of_eq (by simp))
  | selftest => exact .next (.ite (.ite h h) h)
  | selftestEnd received => exact .next (.ite h h)
  | start => exact .next ((h.takeRequest h.takeStart).settleClear s)
  | laneRestart => exact .next ((h.takeRequest h.restartLane).settleClear s)
  | clearFault => exact .next ((h.takeRequest h.clearFaults).settleClear s)
  | egressEnd => exact .next ((h.takeRequest h.takeEgressEnd).settleClear s)
  | present _ _ _ | cancel _ | hold | setLaneMode _ => exact .next ((h.takeRequest_of_eq (by simp)).settleClear s)
  | release => exact .next (h.takeRequest_of_eq (by simp))
  | openWindow => exact .next ((h.takeRequest h.takeOpenWindow).settleClear s)
  | closeWindow => exact .next (h.takeRequest h.takeCloseWindow)
  | setOnboard count => exact .next (h.takeRequest (h.takeSetOnboard count))
  | lineIdle | openingFlagFound | frameAbortHeard | badFrame _ | brakeTimerExpiry | hselAsserted | loiterTimerExpiry _
  | listSecondTimerExpiry => exact .next (.ite h h)
  | lineBusy | egressInputInactive | millisecondCountAdvance => exact .next h
  | transmitStart slots => exact execTransmitStart_placesAfter h slots
  | lostArbitration => exact .next (h.lose.settleClear s)
  | readbackFault => exact execReadbackFault_placesAfter h
  | ownFrameComplete => exact execOwnFrameComplete_placesAfter h
  | unknownKindFrame g k w b => exact .next (.ite (h.heard g false fun _ => id) h)
  | statusFrame g w b => exact .next ((h.heard g _ fun _ ht => ht.statusHeard g w b).settleClear s)
  | offerFrame g w b => exact .next ((h.heard g _ fun _ ht => .ite (of_eq ht (by simp)) ht).settleClear s)
  | closeFrame g w b => exact .next ((h.heard g _ fun _ ht => .ite (of_eq ht (by simp)) ht).settleClear s)
  | grantFrame g w b => exact .next ((h.heard g _ fun _ ht => .ite (of_eq ht (by simp)) ht).settleClear s)
  | claimFrame g w b => exact .next (h.heard g _ fun _ ht => .ite (ht.claimHeard g w _) ht)
  | tallyFrame g w b => exact .next (h.heard g _ fun _ ht => .ite (ht.tallyHeard g w _) ht)
  | ticketFrame g w b =>
    exact .next ((h.heard g _ fun _ ht => of_eq ht (by simp [State.ticketHeard])).settleClear s)
  | egressFrame g w b => exact .next ((h.heard g _ fun _ ht => .ite ht (ht.enterEgress _ _)).settleClear s)
  | egressEndFrame g w b => exact .next ((h.heard g _ fun _ ht => of_eq ht (by simp)).settleClear s)
  | listenTimerExpiry => exact .next (.ite (of_eq h (by simp)) h)
  | isolationTimerExpiry => exact .next (.ite (((h.setPresence _).raise _ _ _ _).closeWindow _) h)
  | rollTimerExpiry => exact .next (.ite (of_eq h (by simp)) h)
  | silenceTimerExpiry peer => exact execSilenceTimerExpiry_placesAfter h peer
  | tallyTimerExpiry => exact .next (.ite (.completeWindow s _) h)
  | keptDemandStart => exact execKeptDemandStart_placesAfter h
  | clearTimerExpiry => exact execClearTimerExpiry_placesAfter h
  | orphanTimerExpiry | claimRepeatTimerExpiry | claimWaitTimerExpiry | passageWaitExpiry =>
    exact .next (.ite (of_eq h (by simp)) h)
  | reDriveStart => exact .next (.ite (.settleClear (h.setBarrier _) s) h)
  | endSwitchActive e => exact execEndSwitchActive_placesAfter h e
  | travelTimerExpiry => exact execTravelTimerExpiry_placesAfter h
  | pauseTimerExpiry => exact execPauseTimerExpiry_placesAfter h
  | pendingCloseTaken => exact execPendingCloseTaken_placesAfter h
  | trackerArm => exact execTrackerArm_placesAfter h
  | zeroPhaseEnd offset =>
    exact .phaseEnd _ h fun _ => .ite h ((h.badConversion _ _).settleClear s)
  | integratePhaseEnd => exact .phaseEnd _ h fun _ => h
  | rundownCrossing r => exact .phaseEnd _ h fun _ => .ite ((h.goodConversion _ _).settleClear s) h
  | rundownOverrange => exact .phaseEnd _ h fun _ => (h.badConversion _ _).settleClear s
  | endSwitchInactive e => exact .next (.ite (.ite h h) h)
  | stall => exact execStall_placesAfter h
  | egressInputActive => exact .next (.ite h ((h.setEgress _).inputRaised.settleClear s))
  | hostByteCompleted b => exact absurd rfl (hc b)
  | requestFailsMessageCheck m => exact execRequestFailsMessageCheck_placesAfter h m

theorem exec_placesAfter (c : Instr) (h : s.vessel.placesAddUp) : PlacesAfter (exec c s) := by
  cases c with
  | hostByteCompleted b =>
    exact execHostByteCompleted_answersWith (P := fun t => t.vessel.placesAddUp) b (fun _ => id) (fun _ _ => id)
      (fun _ c _ hr => exec_placesAfter_of_ne_byte c (requestOf_ne_byte hr)) h
  | _ => exact exec_placesAfter_of_ne_byte _ (by simp) h

end

/-- Settles O11: every command keeps the sum of remainder and grants. -/
theorem placesAlwaysAddUp : Obligations.PlacesAlwaysAddUp := by
  intro s t h hstep
  exact AnswersWith.of_step (Q := fun t => t.vessel.placesAddUp) hstep (fun _ => h) fun c _ _ => exec_placesAfter c h

end Sys2Proof.Machine
end

section
/-! SUPPORT. Claims and grants (R70, R71, R74 to R76): a CLAIM at the vessel station, the gates that a GRANT names, and a GRANT at a
gate. -/

namespace Sys2Proof.Machine

section Claims

variable {s : State} {g : Station} {window : Byte} {body : List Byte}

/-! ## A CLAIM at the vessel station (R74, R75) -/

theorem exec_claimFrame_ofGate (h : s.hears g) (hn : s.presence.number = 0)
    (hf : formatCheck .claim g window body = true) :
    exec (.claimFrame g window body) s = .next ((s.delivered g).claimHeard g window (wordAt body 0)) := by
  simp only [exec, execClaimFrame, hf, State.heard_of_hears s g _ h, State.delivered_isVessel hn, if_true]

theorem State.claimHeard_of_notTaken
    (h : s.vessel.state ≠ .opened ∨ s.vessel.number ≠ window.toNat ∨ (s.vessel.row g).lost = true) (wanted : Nat) :
    s.claimHeard g window wanted = s := by
  refine if_neg ?_
  rintro ⟨opened, own, kept⟩
  rcases h with h | h | h
  · exact h opened
  · exact h (State.inWindow_iff.1 own).2
  · simp [h] at kept

/-- What a claim for a total of `wanted` is given: what it lacks, as far as the remainder goes (R74). -/
def Vessel.given (v : Vessel) (g : Station) (wanted : Nat) : Nat := min (wanted - (v.row g).granted) v.remainder

/-- The vessel half after a claim, with the gate's grant-due mark set (R74). -/
def Vessel.claimed (v : Vessel) (g : Station) (wanted : Nat) : Vessel :=
  { v.setRow g { v.row g with granted := (v.row g).granted + v.given g wanted, due := true } with
    remainder := v.remainder - v.given g wanted }

theorem State.grant_markDue (s : State) (g : Station) (wanted : Nat) :
    (s.setVessel (s.vessel.grant g wanted)).markDue g = (s.setVessel (s.vessel.claimed g wanted)).queueKind .grant := by
  simp [State.markDue, Vessel.grant, Vessel.claimed, Vessel.given, Vessel.setRow, Vessel.row]

/-- The remainder is spent exactly when the claim is given all of it (R75). -/
theorem Vessel.claimed_remainder_eq_zero (v : Vessel) (g : Station) (wanted : Nat) :
    (v.claimed g wanted).remainder = 0 ↔ v.remainder = v.given g wanted := by
  have : v.given g wanted ≤ v.remainder := Nat.min_le_right ..
  change v.remainder - v.given g wanted = 0 ↔ _
  omega

theorem State.windowFullCheck_of_vessel {v : Vessel} (hv : s.vessel = v) :
    s.windowFullCheck =
      if v.remainder = 0 ∧ v.fullRaised = false then
        (s.setVessel { v with fullRaised := true }).raise .windowFull v.number
      else s := by
  subst hv
  simp only [State.windowFullCheck, Bool.not_eq_true']

/-- A CLAIM in the open window from a gate whose account is not lost. -/
theorem State.claimHeard_of_taken (ho : s.vessel.state = .opened) (hw : s.vessel.number = window.toNat)
    (hl : (s.vessel.row g).lost = false) (wanted : Nat) :
    s.claimHeard g window wanted =
      let granted := (s.setVessel (s.vessel.claimed g wanted)).queueKind .grant
      if s.vessel.remainder = s.vessel.given g wanted ∧ s.vessel.fullRaised = false then
        (granted.setVessel { s.vessel.claimed g wanted with fullRaised := true }).raise .windowFull s.vessel.number
      else granted := by
  have inside : s.inWindow window = true := State.inWindow_iff.2 ⟨by simp [ho], hw⟩
  have taken : s.claimHeard g window wanted =
      ((s.setVessel (s.vessel.grant g wanted)).markDue g).windowFullCheck := if_pos ⟨ho, inside, by simp [hl]⟩
  rw [taken, State.grant_markDue, State.windowFullCheck_of_vessel (v := s.vessel.claimed g wanted) rfl]
  simp only [Vessel.claimed_remainder_eq_zero]
  rfl

/-! ## The gates that a GRANT names (R76) -/

/-- Rotating order after a gate of the table: the gates above it, then those up to it. -/
theorem rotating_order {served : Nat} (h : served ≤ 15) :
    ((List.range 15).map fun i => (served + i) % 15 + 1) =
      ((List.range 15).map (· + 1)).filter (fun g => served < g) ++
        ((List.range 15).map (· + 1)).filter (fun g => g ≤ served) := by
  revert served
  decide

/-! ## A GRANT at a gate (R70, R71) -/

theorem exec_grantFrame_ofVessel (h : s.hears 0) (hf : formatCheck .grant 0 window body = true) :
    exec (.grantFrame 0 window body) s = .next (settleClear s ((s.delivered 0).grantHeard window body)) := by
  simp only [exec, execGrantFrame, hf, State.heard_of_hears s 0 _ h, h.delivered_isGate, if_true]

theorem State.grantHeard_of_otherWindow (h : s.view.state = .none ∨ s.view.number ≠ window.toNat) :
    s.grantHeard window body = s :=
  if_neg fun ⟨inView, own⟩ => h.elim inView (· own)

/-- A GRANT that does not name the gate changes the full mark alone, whose clearing makes the background check (R67). -/
theorem State.grantHeard_of_notNamed (hv : s.view.state ≠ .none) (hw : s.view.number = window.toNat)
    (hn : grantedTo s.presence.number body = []) :
    s.grantHeard window body =
      let t := s.setAccount { s.account with full := decide (wordAt body 0 = 0) }
      if s.account.full = true ∧ 0 < wordAt body 0 then t.backgroundCheck else t := by
  rw [State.grantHeard, if_pos ⟨hv, hw⟩, hn]
  simp

/-- A GRANT that names the gate once: the larger total, the claim's end, the return state, and the background check. -/
theorem State.grantHeard_of_named (hv : s.view.state ≠ .none) (hw : s.view.number = window.toNat) {total : Nat}
    (hn : grantedTo s.presence.number body = [total]) :
    s.grantHeard window body =
      let t := s.setAccount
        { s.account with granted := max s.account.granted total, full := decide (wordAt body 0 = 0) }
      let u := t.grantEndsClaim (wordAt body 0)
      let v := if s.account.granted < total ∧ u.inReturnState = true then u.returnFree else u
      if s.account.granted < total ∨ s.account.full = true ∧ 0 < wordAt body 0 then v.backgroundCheck else v := by
  rw [State.grantHeard, if_pos ⟨hv, hw⟩, hn]
  simp

theorem grantedTo_eq_nil {own : Station} (h : ∀ p ∈ grantPairs body, p.1 ≠ own.toNat) : grantedTo own body = [] := by
  simpa [grantedTo] using h

end Claims

/-- Settles O50: the claim by what refuses it, the rotating order for every last served, and the GRANT by the gates it names. -/
theorem claimsAndGrants : Obligations.ClaimsAndGrants := by
  refine ⟨?_, ?_, ?_⟩
  · intro s g window body hh hn hf d row
    have vessel : d.vessel = s.vessel := by simp [d]
    rw [exec_claimFrame_ofGate hh hn hf]
    refine ⟨fun refused => ?_, fun ho hw hl => ?_⟩
    · rw [State.claimHeard_of_notTaken (vessel ▸ refused)]
    · rw [State.claimHeard_of_taken (vessel ▸ ho) (vessel ▸ hw) (vessel ▸ hl), vessel]
      rfl
  · intro v hv stations rotating named
    rw [Vessel.grantPairs, Vessel.served, rotating_order hv]
  · intro s window body hh hf d remainder reopened
    have view : d.view = s.view := by simp [d]
    have account : d.account = s.account := by simp [d]
    have number : d.presence.number = s.presence.number := by simp [d]
    rw [exec_grantFrame_ofVessel hh hf]
    refine ⟨fun other => ?_, fun hv hw => ⟨fun hn => ?_, fun total hn => ?_⟩⟩
    · rw [State.grantHeard_of_otherWindow (view ▸ other)]
    · rw [State.grantHeard_of_notNamed (view ▸ hv) (view ▸ hw) (number ▸ grantedTo_eq_nil hn), account]
    · rw [State.grantHeard_of_named (view ▸ hv) (view ▸ hw) (number ▸ hn), account]
      rfl

end Sys2Proof.Machine
end

section
/-! SUPPORT. The entries of the transmit queue that a gate's place account rests on, TICKET and TALLY (R61, R92): the operations of other
kinds leave them. -/

namespace Sys2Proof.Machine

/-- A kind that a gate's place account rests on: a TICKET stands for a reservation (R92), a TALLY for a finished lane (R61). -/
abbrev FrameKind.IsSlip (k : FrameKind) : Prop := k = .ticket ∨ k = .tally

/-- `m` has the same TICKET and TALLY entries as `l`. -/
def Link.SameSlips (l m : Link) : Prop := ∀ e : TxEntry, e.kind.IsSlip → (e ∈ m.queue ↔ e ∈ l.queue)

variable {l m n : Link} {s : State} {k : FrameKind} {e : TxEntry} {q : List TxEntry}

theorem Link.SameSlips.refl (l : Link) : l.SameSlips l := fun _ _ => .rfl

theorem Link.SameSlips.trans (h : l.SameSlips m) (h' : m.SameSlips n) : l.SameSlips n :=
  fun e he => (h' e he).trans (h e he)

theorem Link.SameSlips.of_queue_eq (h : m.queue = l.queue) : l.SameSlips m := fun _ _ => by rw [h]

/-- Entries of one kind changed in their place leave the entries of the others. -/
theorem mem_map_otherKind {f : TxEntry → TxEntry} (hf : ∀ x, x.kind ≠ k → f x = x) (hk : ∀ x, (f x).kind = x.kind)
    (he : e.kind ≠ k) : e ∈ q.map f ↔ e ∈ q := by
  refine ⟨fun h => ?_, fun h => List.mem_map.2 ⟨e, h, hf e he⟩⟩
  obtain ⟨x, hx, rfl⟩ := List.mem_map.1 h
  rwa [hf x (hk x ▸ he)]

theorem Link.queueKind_sameSlips (l : Link) (hk : ¬k.IsSlip) : l.SameSlips (l.queueKind k) := by
  intro e he
  have other : e.kind ≠ k := by
    rintro rfl
    exact hk he
  unfold Link.queueKind
  split
  · exact mem_map_otherKind (fun x hx => by simp [hx]) (fun x => by split <;> rfl) other
  · have fresh : e ≠ TxEntry.fresh k := fun h => other (h ▸ rfl)
    simp [fresh]

theorem Link.withdraw_sameSlips (l : Link) (hk : ¬k.IsSlip) : l.SameSlips (l.withdraw k) := by
  intro e he
  have other : e.kind ≠ k := by
    rintro rfl
    exact hk he
  refine (mem_map_otherKind (fun x hx => by simp [hx]) (fun x => by split <;> rfl) other).trans ?_
  simp [List.mem_filter, other]

theorem Link.queueEvacuation_sameSlips (l : Link) (hk : k.isEvacuation = true) : l.SameSlips (l.queueEvacuation k) := by
  intro e he
  have other : e ≠ TxEntry.fresh k := by
    rintro rfl
    rcases he with rfl | rfl <;> cases hk
  have kept : e.kind.isEvacuation = false := by rcases he with he | he <;> rw [he] <;> rfl
  unfold Link.queueEvacuation
  split
  · exact .rfl
  split
  · exact .rfl
  · rw [(placeAtHead_perm _ _).mem_iff]
    simp [other, kept]

/-- The entries of a kind withdrawn are gone but for one that is SENDING (R22). -/
theorem Link.mem_withdraw (l : Link) (k : FrameKind) (h : e ∈ (l.withdraw k).queue) (he : e.kind = k) :
    e.sending = true := by
  obtain ⟨x, hx, rfl⟩ := List.mem_map.1 h
  have hk : x.kind = k := by
    revert he
    split <;> exact id
  simpa [hk] using (List.mem_filter.1 hx).2

theorem State.ticketStarted_iff : s.ticketStarted = true ↔ ∃ e ∈ s.link.queue, e.kind = .ticket ∧ e.sending = true := by
  simp [State.ticketStarted, State.isSending]

end Sys2Proof.Machine
end

section
/-! SUPPORT. The operations that leave a gate's books alone: balance, reservation, presentation, view, remaining passages and the entries
TICKET and TALLY stay what they were. One lemma per operation. -/

namespace Sys2Proof.Machine

/-- `t` has what the account of `s` rests on: number, reservation, presentation, view state, tally pending, remaining passages and the
TICKET and TALLY entries; and a balance that holds in `s` holds in `t`. -/
def State.KeepsBooks (s t : State) : Prop :=
  t.presence.number = s.presence.number ∧ (s.inBalance → t.inBalance) ∧ t.account.reserved = s.account.reserved ∧
    t.admission.record = s.admission.record ∧ t.view.state = s.view.state ∧
    t.view.tallyPending = s.view.tallyPending ∧ t.lane.remaining = s.lane.remaining ∧ s.link.SameSlips t.link

/-- The places of an account: granted, returned, charged and reserved (R64). -/
def Account.places (a : Account) : Nat × Nat × Nat × Nat := (a.granted, a.returned, a.charged, a.reserved)

/-- The passages of a lane: remaining, paid, unpaid and excess (R81). -/
def Lane.counts (l : Lane) : Nat × Nat × Nat × Nat := (l.remaining, l.paid, l.unpaid, l.excess)

namespace State.KeepsBooks

variable {r s t : State}

theorem refl (s : State) : s.KeepsBooks s := ⟨rfl, id, rfl, rfl, rfl, rfl, rfl, .refl _⟩

theorem trans (h : r.KeepsBooks s) (h' : s.KeepsBooks t) : r.KeepsBooks t := by
  obtain ⟨number, balance, reserved, record, view, tally, remaining, slips⟩ := h
  obtain ⟨number', balance', reserved', record', view', tally', remaining', slips'⟩ := h'
  exact ⟨number'.trans number, balance' ∘ balance, reserved'.trans reserved, record'.trans record, view'.trans view,
    tally'.trans tally, remaining'.trans remaining, slips.trans slips'⟩

theorem ite {p : Prop} [Decidable p] (hs : r.KeepsBooks s) (ht : r.KeepsBooks t) : r.KeepsBooks (if p then s else t) := by
  split
  · exact hs
  · exact ht

/-! ## Updates -/

theorem setPort (h : r.KeepsBooks s) (x : HostPort) : r.KeepsBooks (s.setPort x) := h
theorem setConfig (h : r.KeepsBooks s) (x : ConfigRecord) : r.KeepsBooks (s.setConfig x) := h
theorem setLocked (h : r.KeepsBooks s) (x : Bool) : r.KeepsBooks (s.setLocked x) := h
theorem setVessel (h : r.KeepsBooks s) (x : Vessel) : r.KeepsBooks (s.setVessel x) := h
theorem setList (h : r.KeepsBooks s) (x : RecentList) : r.KeepsBooks (s.setList x) := h
theorem setConverter (h : r.KeepsBooks s) (x : Converter) : r.KeepsBooks (s.setConverter x) := h
theorem setBarrier (h : r.KeepsBooks s) (x : Barrier) : r.KeepsBooks (s.setBarrier x) := h
theorem setEgress (h : r.KeepsBooks s) (x : Egress) : r.KeepsBooks (s.setEgress x) := h
theorem raise (h : r.KeepsBooks s) (k : EventKind) (a b c : Nat) : r.KeepsBooks (s.raise k a b c) := h

theorem setLink (h : r.KeepsBooks s) {x : Link} (hx : s.link.SameSlips x) : r.KeepsBooks (s.setLink x) :=
  h.trans ⟨rfl, id, rfl, rfl, rfl, rfl, rfl, hx⟩

theorem setPresence (h : r.KeepsBooks s) (x : Presence) (hn : x.number = s.presence.number) :
    r.KeepsBooks (s.setPresence x) :=
  h.trans ⟨hn, id, rfl, rfl, rfl, rfl, rfl, .refl _⟩

theorem setView (h : r.KeepsBooks s) (x : WindowView) (hs : x.state = s.view.state)
    (hp : x.tallyPending = s.view.tallyPending) : r.KeepsBooks (s.setView x) :=
  h.trans ⟨rfl, id, rfl, rfl, hs, hp, rfl, .refl _⟩

theorem setAdmission (h : r.KeepsBooks s) (x : Admission) (hr : x.record = s.admission.record) :
    r.KeepsBooks (s.setAdmission x) :=
  h.trans ⟨rfl, id, rfl, hr, rfl, rfl, rfl, .refl _⟩

/-- The account changed in its claim, its timers and its marks. -/
theorem setAccount (h : r.KeepsBooks s) (x : Account) (hx : x.places = s.account.places) :
    r.KeepsBooks (s.setAccount x) := by
  simp only [Account.places, Prod.mk.injEq] at hx
  obtain ⟨hg, hr, hc, ha⟩ := hx
  refine h.trans ⟨rfl, fun balance => ?_, ha, rfl, rfl, rfl, rfl, .refl _⟩
  simpa only [State.inBalance, State.setAccount_account, State.setAccount_lane, hg, hr, hc, ha] using balance

/-- The lane changed in its state, its tracker, its timers and its marks. -/
theorem setLane (h : r.KeepsBooks s) (x : Lane) (hx : x.counts = s.lane.counts) : r.KeepsBooks (s.setLane x) := by
  simp only [Lane.counts, Prod.mk.injEq] at hx
  obtain ⟨hr, hp, hu, he⟩ := hx
  refine h.trans ⟨rfl, fun balance => ?_, rfl, rfl, rfl, rfl, hr, .refl _⟩
  simpa only [State.inBalance, State.setLane_account, State.setLane_lane, hr, hp, hu, he] using balance

theorem settleClear {r s t : State} (h : r.KeepsBooks t) : r.KeepsBooks (settleClear s t) :=
  .ite (.ite h (h.setLane _ (by rfl))) (h.setLane _ (by rfl))

/-! ## The transmit queue -/

theorem queueKind (h : r.KeepsBooks s) {k : FrameKind} (hk : ¬k.IsSlip) : r.KeepsBooks (s.queueKind k) :=
  h.setLink (s.link.queueKind_sameSlips hk)

theorem withdraw (h : r.KeepsBooks s) {k : FrameKind} (hk : ¬k.IsSlip) : r.KeepsBooks (s.withdraw k) :=
  h.setLink (s.link.withdraw_sameSlips hk)

theorem queueEvacuation (h : r.KeepsBooks s) {k : FrameKind} (hk : k.isEvacuation = true) :
    r.KeepsBooks (s.queueEvacuation k) :=
  h.setLink (s.link.queueEvacuation_sameSlips hk)

theorem statusTrigger (h : r.KeepsBooks s) : r.KeepsBooks s.statusTrigger := .ite (h.queueKind (by decide)) h

theorem requeueGrant (h : r.KeepsBooks s) : r.KeepsBooks s.requeueGrant := .ite (h.queueKind (by decide)) h

theorem dropReport (h : r.KeepsBooks s) (e : TxEntry) : r.KeepsBooks (s.dropReport e) := by
  unfold State.dropReport
  split <;> exact h

/-! ## Claims and returns (R67 to R72, R79) -/

theorem startClaim (h : r.KeepsBooks s) (c : Claim) (w : Nat) : r.KeepsBooks (s.startClaim c w) :=
  (h.setAccount _ (by rfl)).queueKind (by decide)

theorem backgroundCheck (h : r.KeepsBooks s) : r.KeepsBooks s.backgroundCheck := .ite (h.startClaim _ _) h

theorem dropClaim (h : r.KeepsBooks s) : r.KeepsBooks s.dropClaim := (h.setAccount _ (by rfl)).withdraw (by decide)

theorem endClaim (h : r.KeepsBooks s) : r.KeepsBooks s.endClaim := .ite h h.dropClaim

theorem demand (h : r.KeepsBooks s) (party : Nat) : r.KeepsBooks (s.demand party) :=
  .ite (.ite (h.startClaim _ _) (h.setAccount _ (by rfl))) ((h.setAccount _ (by rfl)).queueKind (by decide))

/-- Free credits returned are places that were granted and neither returned, charged nor reserved (R79). -/
theorem returnFree (h : r.KeepsBooks s) : r.KeepsBooks s.returnFree := by
  have returned : r.KeepsBooks (s.setAccount { s.account with returned := s.account.returned + s.freeCredits }) := by
    refine h.trans ⟨rfl, fun balance => ?_, rfl, rfl, rfl, rfl, rfl, .refl _⟩
    obtain ⟨covered, charged, excess⟩ := balance
    refine ⟨?_, charged, excess⟩
    simp only [State.setAccount_account, State.freeCredits, State.held]
    omega
  exact .ite h returned.statusTrigger

theorem enterReturn (h : r.KeepsBooks s) : r.KeepsBooks s.enterReturn := h.endClaim.returnFree

theorem egressReturn (h : r.KeepsBooks s) : r.KeepsBooks s.egressReturn := .ite h.enterReturn h

theorem statusCompleted (h : r.KeepsBooks s) (f : Frame) : r.KeepsBooks (s.statusCompleted f) :=
  .ite (h.setAccount _ (by rfl)).backgroundCheck h

/-! ## Hold, reports to the lane and the barrier driver -/

theorem holdEffective (h : r.KeepsBooks s) : r.KeepsBooks s.holdEffective := (h.setLane _ (by rfl)).enterReturn.raise _ _ _ _

theorem holdCheck (h : r.KeepsBooks s) : r.KeepsBooks s.holdCheck := .ite h.holdEffective h

theorem recoveryComplete (h : r.KeepsBooks s) (next : LaneState) : r.KeepsBooks (s.recoveryComplete next) :=
  (h.setLane _ (by rfl)).raise _ _ _ _

theorem reportOpen (h : r.KeepsBooks s) : r.KeepsBooks s.reportOpen :=
  .ite (h.setLane _ (by rfl)) (.ite (h.recoveryComplete _) h)

theorem reportClosed (h : r.KeepsBooks s) : r.KeepsBooks s.reportClosed :=
  .ite (h.setLane _ (by rfl)).holdCheck (.ite (h.recoveryComplete _).holdCheck h)

theorem reportReversed (h : r.KeepsBooks s) : r.KeepsBooks s.reportReversed :=
  .ite (h.setLane _ (by rfl)) (.ite (h.setLane _ (by rfl)) h)

theorem reachEnd (h : r.KeepsBooks s) (e : EndId) : r.KeepsBooks (s.reachEnd e) := by
  cases e
  · exact (h.setBarrier _).reportOpen
  · exact (h.setBarrier _).reportClosed

theorem beginOpen (h : r.KeepsBooks s) : r.KeepsBooks s.beginOpen := .ite (h.reachEnd _) (h.setBarrier _)

theorem beginClose (h : r.KeepsBooks s) : r.KeepsBooks s.beginClose := .ite (h.reachEnd _) (h.setBarrier _)

theorem turnOpen (h : r.KeepsBooks s) : r.KeepsBooks s.turnOpen := .ite (h.reachEnd _) (h.setBarrier _)

theorem turnClose (h : r.KeepsBooks s) : r.KeepsBooks s.turnClose := .ite (h.reachEnd _) (h.setBarrier _)

theorem commandTaken (h : r.KeepsBooks s) : r.KeepsBooks s.commandTaken := h.setBarrier _

theorem movementCommanded (h : r.KeepsBooks s) : r.KeepsBooks s.movementCommanded := h.setBarrier _

theorem egressAttempt (h : r.KeepsBooks s) : r.KeepsBooks s.egressAttempt := .ite (h.reachEnd _) (h.setBarrier _)

theorem openCommand (h : r.KeepsBooks s) (e : Bool) : r.KeepsBooks (s.openCommand e) := by
  unfold State.openCommand
  split
  · exact h.commandTaken.beginOpen
  · exact h.commandTaken.beginOpen
  · exact h.commandTaken.movementCommanded
  · exact h.commandTaken.reportOpen
  · exact h.commandTaken.turnOpen
  · exact h.commandTaken.beginOpen
  · exact .ite h.commandTaken.egressAttempt h

theorem closeCommand (h : r.KeepsBooks s) : r.KeepsBooks s.closeCommand := by
  unfold State.closeCommand
  split
  · exact .ite h.commandTaken.beginClose (h.setBarrier _).reportReversed
  · exact h.commandTaken.reportClosed
  · exact .ite h.commandTaken.beginClose h.reportReversed
  · exact .ite h.commandTaken.turnClose h.reportReversed
  · exact h.commandTaken.movementCommanded
  · exact .ite h.commandTaken.beginClose h.reportReversed
  · exact h

theorem plateBroken (h : r.KeepsBooks s) : r.KeepsBooks s.plateBroken :=
  .ite (h.setBarrier _).reportReversed (.ite (h.setBarrier _).reportReversed h)

theorem takePosition (h : r.KeepsBooks s) (e : EndId) : r.KeepsBooks (s.takePosition e) :=
  ((h.reachEnd e).setBarrier _).raise _ _ _ _

theorem endPause (h : r.KeepsBooks s) : r.KeepsBooks s.endPause :=
  .ite (h.reachEnd _) (.ite (h.setBarrier _) (.ite (h.setBarrier _) (h.setBarrier _).reportReversed))

theorem clearLatch (h : r.KeepsBooks s) : r.KeepsBooks s.clearLatch :=
  .ite (.ite (.ite ((h.setBarrier _).openCommand _) (h.setBarrier _)) (h.setBarrier _)) h

theorem barrierEgress (h : r.KeepsBooks s) : r.KeepsBooks s.barrierEgress :=
  (ite ((h.setBarrier _).setBarrier _) (h.setBarrier _)).openCommand _

/-! ## The lane -/

theorem loiterChange (h : r.KeepsBooks s) (p : PlateId) (old : PlateClass) : r.KeepsBooks (s.loiterChange p old) := by
  have loiter (x : Timer) : r.KeepsBooks (s.setLane (s.lane.setLoiter p x)) := by cases p <;> exact h.setLane _ (by rfl)
  exact .ite (loiter _) (.ite (loiter _) h)

theorem alightOpen (h : r.KeepsBooks s) (p : PlateId) (old : PlateClass) : r.KeepsBooks (s.alightOpen p old) :=
  .ite ((h.setLane _ (by rfl)).openCommand _) h

theorem alight (h : r.KeepsBooks s) : r.KeepsBooks s.alight := .ite h h

theorem settleCheck (h : r.KeepsBooks s) : r.KeepsBooks s.settleCheck := .ite (h.setLane _ (by rfl)) h

theorem startLane (h : r.KeepsBooks s) : r.KeepsBooks s.startLane :=
  .ite ((h.setLane _ (by rfl)).openCommand _) (.ite (h.setLane _ (by rfl)) h)

theorem clearFaults (h : r.KeepsBooks s) : r.KeepsBooks s.clearFaults.1 := by
  have cleared : r.KeepsBooks s.clearPlateFaults := h.setConverter _
  unfold State.clearFaults
  dsimp only
  split
  · split
    · exact cleared.clearLatch
    · exact .ite ((cleared.clearLatch.setLane _ (by rfl)).openCommand _) (cleared.clearLatch.setLane _ (by rfl))
  · split
    · exact (cleared.setLane _ (by rfl)).clearLatch.raise _ _ _ _
    · exact h

theorem takeHold (h : r.KeepsBooks s) : r.KeepsBooks s.takeHold.1 := by
  unfold State.takeHold
  split
  · exact h
  split
  · exact h
  · dsimp only
    split
    · exact (h.setLane _ (by rfl)).holdCheck
    · exact h.setLane _ (by rfl)

theorem takeRelease (h : r.KeepsBooks s) : r.KeepsBooks s.takeRelease.1 := by
  unfold State.takeRelease
  split
  · exact h.setLane _ (by rfl)
  · split
    · exact h.setLane _ (by rfl)
    · exact h

/-! ## The vessel half, the list and the good frames -/

theorem overCapacityCheck (h : r.KeepsBooks s) : r.KeepsBooks s.overCapacityCheck := .ite (h.raise _ _ _ _) h

theorem completeWindow (h : r.KeepsBooks s) (c : Bool) : r.KeepsBooks (s.completeWindow c) :=
  ((h.setVessel _).raise _ _ _ _).statusTrigger.overCapacityCheck

theorem completionCheck (h : r.KeepsBooks s) : r.KeepsBooks s.completionCheck := .ite (h.completeWindow _) h

theorem closeWindow (h : r.KeepsBooks s) (c : CloseCause) : r.KeepsBooks (s.closeWindow c) :=
  .ite (((h.queueKind (by decide)).setVessel _).statusTrigger.raise _ _ _ _).completionCheck h

theorem grantCompleted (h : r.KeepsBooks s) (f : Frame) : r.KeepsBooks (s.grantCompleted f) :=
  .ite (h.setVessel _).requeueGrant h

theorem offerTicket (h : r.KeepsBooks s) (k : TicketKey) (c p : Nat) (g : Station) (w : Nat) (o : ListOrigin) :
    r.KeepsBooks (s.offerTicket k c p g w o) := by
  have inserted (e : ListEntry) : r.KeepsBooks (s.insertEntry e) := by
    unfold State.insertEntry
    split
    · exact h.setList _
    · split
      · exact h.setList _
      · exact (h.setList _).raise _ _ _ _
  unfold State.offerTicket
  split
  · exact h.raise _ _ _ _
  · exact .ite h (inserted _)

theorem egressStatus (h : r.KeepsBooks s) : r.KeepsBooks s.egressStatus := .ite h.statusTrigger h

theorem frameTaken (h : r.KeepsBooks s) (g : Station) : r.KeepsBooks (s.frameTaken g) := h.setLink (.of_queue_eq rfl)

theorem heardAtStation (h : r.KeepsBooks s) (g : Station) : r.KeepsBooks (s.heardAtStation g) := by
  unfold State.heardAtStation
  dsimp only
  split
  · exact h
  · exact (h.setPresence _ (by rfl)).queueKind (by decide)
  · exact h.setPresence _ (by rfl)
  · exact (h.setPresence _ (by rfl)).raise _ _ _ _

theorem peerHeard (h : r.KeepsBooks s) (g : Station) : r.KeepsBooks (s.peerHeard g) :=
  .ite (h.setPresence _ (by rfl)) ((h.setPresence _ (by rfl)).raise _ _ _ _)

theorem delivered (h : r.KeepsBooks s) (g : Station) : r.KeepsBooks (s.delivered g) :=
  ((h.frameTaken g).heardAtStation g).peerHeard g

theorem recordStatus (h : r.KeepsBooks s) (g : Station) (w : Byte) (b : List Byte) :
    r.KeepsBooks (s.recordStatus g w b) :=
  h.setPresence _ (by rfl)

end State.KeepsBooks
end Sys2Proof.Machine
end

section
/-! SUPPORT. A gate's place account (R64, R65, R81): what each operation that moves places, presentations or the view makes of it. -/

namespace Sys2Proof.Machine

variable {s t : State}

/-! ## The account, with and without its clause on the view -/

/-- The account sound but for what R99 and R100 say of a presentation out of view OPEN: what stays true between the change of the view,
or the end of a TICKET, and the presentation's stop. -/
def State.ledgerSound (s : State) : Prop :=
  s.isGate = true →
    s.inBalance ∧ s.account.reserved = s.partyAside ∧
      ((∃ e ∈ s.link.queue, e.kind = .ticket) → ∃ p, s.admission.record = some p ∧ p.state = .awaitLink) ∧
      (s.view.state = .none → s.lane.remaining = 0) ∧
      (s.view.tallyPending = true → s.view.state = .closed ∧ s.lane.remaining = 0) ∧
      ∀ e ∈ s.link.queue, e.kind = .tally → s.view.tallyPending = true ∧ e.requeue = false

/-- A presentation pends in view OPEN, or with its TICKET SENDING and its stop noted in an ORPHANED view (R99, R100). -/
def State.pendsInView (s : State) : Prop :=
  s.view.state ≠ .opened → ∀ p, s.admission.record = some p →
    s.view.state = .orphaned ∧ s.ticketStarted = true ∧ p.stopCause ≠ none

theorem State.accountSound_iff : s.accountSound ↔ s.ledgerSound ∧ (s.isGate = true → s.pendsInView) := by
  constructor
  · intro h
    refine ⟨fun hg => ?_, fun hg => ?_⟩ <;> obtain ⟨balance, reserved, ticket, pends, rest⟩ := h hg
    · exact ⟨balance, reserved, ticket, rest⟩
    · exact pends
  · rintro ⟨ledger, pends⟩ hg
    obtain ⟨balance, reserved, ticket, rest⟩ := ledger hg
    exact ⟨balance, reserved, ticket, pends hg, rest⟩

theorem State.accountSound.ledger (h : s.accountSound) : s.ledgerSound := (State.accountSound_iff.1 h).1

/-- Without a presentation nothing pends. -/
theorem State.ledgerSound.accountSound_of_none (h : s.ledgerSound) (hr : s.isGate = true → s.admission.record = none) :
    s.accountSound :=
  State.accountSound_iff.2 ⟨h, fun hg _ p hp => by simp [hr hg] at hp⟩

theorem State.isGate_congr (h : t.presence.number = s.presence.number) : t.isGate = s.isGate := by
  simp only [State.isGate, State.isVessel, h]

/-! ## What keeps the books keeps the account sound -/

namespace State.KeepsBooks

theorem isGate (h : s.KeepsBooks t) : t.isGate = s.isGate := State.isGate_congr h.1

theorem record (h : s.KeepsBooks t) : t.admission.record = s.admission.record := h.2.2.2.1

theorem viewState (h : s.KeepsBooks t) : t.view.state = s.view.state := h.2.2.2.2.1

theorem remaining (h : s.KeepsBooks t) : t.lane.remaining = s.lane.remaining := h.2.2.2.2.2.2.1

theorem slips (h : s.KeepsBooks t) : s.link.SameSlips t.link := h.2.2.2.2.2.2.2

theorem ticketStarted (h : s.KeepsBooks t) : t.ticketStarted = s.ticketStarted := by
  rw [Bool.eq_iff_iff, State.ticketStarted_iff, State.ticketStarted_iff]
  refine exists_congr fun e => and_congr_left fun ⟨hk, _⟩ => h.slips e (.inl hk)

theorem partyAside (h : s.KeepsBooks t) : t.partyAside = s.partyAside := by
  simp only [State.partyAside, h.record]

theorem ledgerSound (k : s.KeepsBooks t) (h : s.ledgerSound) : t.ledgerSound := by
  intro hg
  obtain ⟨balance, reserved, ticket, away, tally, entries⟩ := h (k.isGate ▸ hg)
  have aside := k.partyAside
  obtain ⟨-, kept, sameReserved, record, view, pending, remaining, slips⟩ := k
  rw [sameReserved, aside, record, view, pending, remaining]
  refine ⟨kept balance, reserved, fun ⟨e, he, hk⟩ => ticket ⟨e, (slips e (.inl hk)).1 he, hk⟩, away, tally, ?_⟩
  exact fun e he hk => entries e ((slips e (.inr hk)).1 he) hk

theorem accountSound (k : s.KeepsBooks t) (h : s.accountSound) : t.accountSound := by
  obtain ⟨ledger, pends⟩ := State.accountSound_iff.1 h
  refine State.accountSound_iff.2 ⟨k.ledgerSound ledger, fun hg => ?_⟩
  unfold State.pendsInView
  rw [k.viewState, k.record, k.ticketStarted]
  exact pends (k.isGate ▸ hg)

/-- Nothing of the books but the reservation is read from the presentation. -/
theorem underAdmission (k : s.KeepsBooks t) {a b : Admission} (hr : b.record = a.record) :
    (s.setAdmission a).KeepsBooks (t.setAdmission b) := by
  obtain ⟨number, balance, reserved, -, view, pending, remaining, slips⟩ := k
  exact ⟨number, balance, reserved, hr, view, pending, remaining, slips⟩

end State.KeepsBooks

/-! ## The transmit queue -/

/-- Every TICKET and TALLY of a queue answers to one of the same kind that was there, with no new requeue mark. -/
def Link.SlipsFrom (l m : Link) : Prop :=
  ∀ e ∈ m.queue, e.kind.IsSlip → ∃ x ∈ l.queue, x.kind = e.kind ∧ (e.requeue = true → x.requeue = true)

theorem State.ledgerSound.setLink (h : s.ledgerSound) {x : Link} (hx : s.link.SlipsFrom x) : (s.setLink x).ledgerSound := by
  intro hg
  obtain ⟨balance, reserved, ticket, away, tally, entries⟩ := h hg
  refine ⟨balance, reserved, fun ⟨e, he, hk⟩ => ?_, away, tally, fun e he hk => ?_⟩
  · obtain ⟨y, hy, same, -⟩ := hx e he (.inl hk)
    exact ticket ⟨y, hy, same.trans hk⟩
  · obtain ⟨y, hy, same, mark⟩ := hx e he (.inr hk)
    obtain ⟨pending, clear⟩ := entries y hy (same.trans hk)
    exact ⟨pending, Bool.eq_false_iff.2 fun hr => by simp [mark hr] at clear⟩

/-! ## The presentation (R95, R98, R99, R101) -/

/-- With the presentation gone, its reservation lapsed and its TICKET out of the queue, the account is sound. -/
theorem State.ledgerSound.withoutPresentation (h : s.ledgerSound) {x : Link} (hx : s.link.SlipsFrom x)
    (hn : s.isGate = true → ∀ e ∈ x.queue, e.kind ≠ .ticket) {a : Admission} (ha : a.record = none) :
    (((s.setLink x).setAccount { s.account with reserved := 0 }).setAdmission a).accountSound := by
  refine State.ledgerSound.accountSound_of_none (fun hg => ?_) fun _ => ha
  obtain ⟨⟨covered, charged, excess⟩, -, -, away, tally, entries⟩ := h.setLink hx hg
  refine ⟨⟨?_, charged, excess⟩, ?_, fun ⟨e, he, hk⟩ => absurd hk (hn hg e he), away, tally, entries⟩
  · exact (Nat.le_add_right _ _).trans covered
  · exact (State.partyAside_of_none _ ha).symm

/-- With no TICKET SENDING, withdrawing the TICKET leaves none (R22). -/
theorem Link.withdraw_ticket_gone {l : Link} (hn : ∀ e ∈ l.queue, e.kind = .ticket → e.sending = false) :
    ∀ e ∈ (l.withdraw .ticket).queue, e.kind ≠ .ticket := by
  intro e he hk
  obtain ⟨x, hx, rfl⟩ := List.mem_map.1 he
  have kind : x.kind = .ticket := by
    revert hk
    split <;> exact id
  have sending := l.mem_withdraw .ticket he hk
  simp only [kind, beq_self_eq_true, if_true] at sending
  simp [hn x (List.mem_of_mem_filter hx) kind] at sending

theorem Link.withdraw_ticket_slipsFrom (l : Link) : l.SlipsFrom (l.withdraw .ticket) := by
  intro e he hs
  obtain ⟨x, hx, rfl⟩ := List.mem_map.1 he
  refine ⟨x, List.mem_of_mem_filter hx, ?_, ?_⟩ <;> split
  · rfl
  · rfl
  · exact nofun
  · exact id

theorem State.notSending_of_not_started (h : ¬s.ticketStarted = true) :
    ∀ e ∈ s.link.queue, e.kind = .ticket → e.sending = false := by
  intro e he hk
  rw [State.ticketStarted_iff] at h
  exact Bool.eq_false_iff.2 fun hs => h ⟨e, he, hk, hs⟩

/-- A lapse sets the reservation to 0, and returns what it frees in the return state (R65, R79). -/
theorem State.lapse_keepsBooks (s : State) : (s.setAccount { s.account with reserved := 0 }).KeepsBooks s.lapse :=
  .ite (State.KeepsBooks.refl _).returnFree (.refl _)

/-- A presentation whose TICKET is not SENDING is refused (R95). -/
theorem State.ledgerSound.refuse (h : s.ledgerSound)
    (hn : ∀ p, s.admission.record = some p → ¬(p.state = .awaitLink ∧ s.ticketStarted = true)) (reason : Reason)
    (detail : Nat) : (s.refuse reason detail).accountSound := by
  unfold State.refuse
  split
  next none => exact h.accountSound_of_none fun _ => none
  next p record =>
    have gone {a : Admission} (ha : a.record = none) :
        ((if p.state = .awaitLink then (s.withdraw .ticket).lapse else s).setAdmission a).accountSound := by
      split
      next awaiting =>
        have quiet : ¬s.ticketStarted = true := fun started => hn p record ⟨awaiting, started⟩
        exact ((s.withdraw .ticket).lapse_keepsBooks.underAdmission rfl).accountSound
          (h.withoutPresentation s.link.withdraw_ticket_slipsFrom
            (fun _ => Link.withdraw_ticket_gone (State.notSending_of_not_started quiet)) ha)
      next waiting =>
        refine State.ledgerSound.accountSound_of_none (fun hg => ?_) fun _ => ha
        obtain ⟨balance, reserved, ticket, away, tally, entries⟩ := h hg
        refine ⟨balance, ?_, fun hq => ?_, away, tally, entries⟩
        · rw [State.partyAside_of_none _ ha]
          exact reserved.trans (by simp [State.partyAside, record, waiting])
        · obtain ⟨q, hq, awaiting⟩ := ticket hq
          rw [record] at hq
          cases hq
          exact absurd awaiting waiting
    dsimp only
    generalize (if p.state = .awaitLink then (s.withdraw .ticket).lapse else s) = t at gone ⊢
    have decided := (((State.KeepsBooks.refl t).setAccount { t.account with kept := none } rfl).raise .refused p.number
      reason.code detail).underAdmission (a := Admission.afterReset) (b := { t.admission with
        record := none, lastDecided := some p.number }) rfl
    exact decided.holdCheck.accountSound (gone rfl)

/-- One of the events of R99 leaves a presentation refused, or its stop noted while its TICKET is SENDING. -/
theorem State.ledgerSound.stopPresentation (h : s.ledgerSound)
    (hv : s.isGate = true → s.ticketStarted = true → s.view.state = .opened ∨ s.view.state = .orphaned)
    (cause : StopCause) : (s.stopPresentation cause).accountSound := by
  unfold State.stopPresentation
  split
  next none => exact h.accountSound_of_none fun _ => none
  next p record =>
    split
    next noted =>
      obtain ⟨awaiting, started⟩ := noted
      refine State.accountSound_iff.2 ⟨fun hg => ?_, fun hg notOpened q hq => ?_⟩
      · obtain ⟨balance, reserved, -, away, tally, entries⟩ := h hg
        refine ⟨balance, ?_, fun _ => ⟨_, rfl, awaiting⟩, away, tally, entries⟩
        rw [State.partyAside_of_awaitLink s p record awaiting] at reserved
        exact reserved.trans (State.partyAside_of_awaitLink _
          { p with stopCause := some (p.stopCause.getD cause) } rfl awaiting).symm
      · cases hq
        exact ⟨(hv hg started).resolve_left notOpened, started, nofun⟩
    next refused =>
      refine h.refuse (fun q hq => ?_) _ _
      rw [record] at hq
      cases hq
      exact refused

/-- Entry to egress leaves neither presentation nor TICKET (R101). -/
theorem State.ledgerSound.abortPresentation (h : s.ledgerSound) : s.abortPresentation.accountSound := by
  unfold State.abortPresentation
  dsimp only
  have refused {x : Link} (hx : s.link.SlipsFrom x) (gone : ∀ e ∈ x.queue, e.kind ≠ .ticket) :
      ((s.setLink x).refuse .egress 0).accountSound := by
    refine (h.setLink hx).refuse (fun _ _ ⟨_, started⟩ => ?_) _ _
    obtain ⟨e, he, kind, -⟩ := State.ticketStarted_iff.1 started
    exact gone e he kind
  split
  · refine refused (fun e he _ => ⟨e, List.mem_of_mem_filter he, rfl, id⟩) fun e he hk => ?_
    simp [hk] at he
  next quiet =>
    exact refused s.link.withdraw_ticket_slipsFrom (Link.withdraw_ticket_gone (State.notSending_of_not_started quiet))

/-! ## The account cleared (R63, R84) -/

/-- Nothing at the gate rests on the account: no presentation, no remaining passages, no TICKET and no TALLY. -/
def State.vacant (s : State) : Prop :=
  s.admission.record = none ∧ s.lane.remaining = 0 ∧ s.view.tallyPending = false ∧ ∀ e ∈ s.link.queue, ¬e.kind.IsSlip

theorem State.KeepsBooks.vacant (k : s.KeepsBooks t) (h : s.vacant) : t.vacant := by
  obtain ⟨-, -, -, sameRecord, -, samePending, sameRemaining, slips⟩ := k
  obtain ⟨record, remaining, pending, empty⟩ := h
  exact ⟨sameRecord.trans record, sameRemaining.trans remaining, samePending.trans pending,
    fun e he hs => empty e ((slips e hs).1 he) hs⟩

theorem State.clearAccount_accountSound (h : s.isGate = true → s.vacant) : s.clearAccount.accountSound := by
  have cleared : ((s.endClaim.setAccount Account.afterReset).setLane
      { s.endClaim.lane with paid := 0, unpaid := 0, excess := 0 }).accountSound := by
    refine State.ledgerSound.accountSound_of_none (fun hg => ?_) fun hg => ?_
    all_goals
      have k := (State.KeepsBooks.refl s).endClaim
      obtain ⟨record, remaining, pending, empty⟩ := k.vacant (h (k.isGate ▸ hg))
    · refine ⟨⟨Nat.zero_le _, ?_, Nat.le_refl _⟩, (State.partyAside_of_none _ record).symm,
        fun ⟨e, he, hk⟩ => absurd (.inl hk) (empty e he), fun _ => remaining, fun hp => ?_,
        fun e he hk => absurd (.inr hk) (empty e he)⟩
      · change 0 + 0 = 0 + 0 + s.endClaim.lane.remaining
        omega
      · exact absurd (pending.symm.trans hp) Bool.false_ne_true
    · exact record
  unfold State.clearAccount
  dsimp only
  split
  · exact cleared
  · exact (State.KeepsBooks.refl _).statusTrigger.accountSound cleared

/-- A sound account in view NONE has nothing resting on it. -/
theorem State.accountSound.vacant_of_none (h : s.accountSound) (hg : s.isGate = true) (hv : s.view.state = .none) :
    s.vacant := by
  obtain ⟨-, -, ticket, pends, away, tally, entries⟩ := h hg
  have record : s.admission.record = none :=
    Option.eq_none_iff_forall_not_mem.2 fun p hp => by simpa [hv] using (pends (by simp [hv]) p hp).1
  have pending : s.view.tallyPending = false := Bool.eq_false_iff.2 fun hp => by simpa [hv] using (tally hp).1
  refine ⟨record, away hv, pending, fun e he hs => ?_⟩
  rcases hs with hk | hk
  · obtain ⟨p, hp, -⟩ := ticket ⟨e, he, hk⟩
    simp [record] at hp
  · simp [pending] at entries
    exact entries e he hk

/-! ## Refunds, the finished report and counting (R61, R82, R83, R125, R131) -/

namespace State.accountSound

theorem tallyCheck (h : s.accountSound) : s.tallyCheck.accountSound := by
  unfold State.tallyCheck
  split
  next due =>
    obtain ⟨-, closed, clear, finished⟩ := due
    have remaining : s.lane.remaining = 0 := by
      simp only [State.laneFinished, Bool.and_eq_true, beq_iff_eq] at finished
      exact finished.1
    have notPending : s.view.tallyPending = false := by simpa using clear
    intro hg
    obtain ⟨balance, reserved, ticket, pends, -, -, entries⟩ := h hg
    have absent : ∀ e ∈ s.link.queue, e.kind ≠ .tally := fun e he hk => by
      simpa [notPending] using (entries e he hk).1
    rw [State.queueKind, Link.queueKind_of_absent absent]
    refine ⟨balance, reserved, ?_, ?_, fun hv => ?_, fun _ => ⟨closed, remaining⟩, ?_⟩
    · rintro ⟨e, he, hk⟩
      rcases List.mem_append.1 he with he | he
      · exact ticket ⟨e, he, hk⟩
      · simp [List.mem_singleton.1 he, TxEntry.fresh] at hk
    · exact fun notOpened p hp => by simpa [closed] using (pends notOpened p hp).1
    · simp [closed] at hv
    · intro e he hk
      rcases List.mem_append.1 he with he | he
      · exact absurd hk (absent e he)
      · simp [List.mem_singleton.1 he, TxEntry.fresh]
  next => exact h

/-- The account's side of a refund (R83), with the lane's: what charged and remaining lose. -/
theorem refunded (h : s.accountSound) (x : Timer) :
    ((s.setLane { s.lane with remaining := 0, passageWait := x }).setAccount
      { s.account with charged := s.account.charged - s.lane.remaining }).accountSound := by
  intro hg
  obtain ⟨⟨covered, charged, excess⟩, reserved, ticket, pends, -, tally, entries⟩ := h hg
  refine ⟨⟨?_, ?_, excess⟩, reserved, ticket, pends, fun _ => rfl, fun hp => ⟨(tally hp).1, rfl⟩, entries⟩
  · simp only [State.setAccount_account]
    omega
  · simp only [State.setAccount_account, State.setAccount_lane, State.setLane_lane]
    omega

theorem refund (h : s.accountSound) (cause : RefundCause) : (s.refund cause).accountSound := by
  unfold State.refund
  split
  · exact h
  · dsimp only
    refine tallyCheck (KeepsBooks.raise (KeepsBooks.refl _) _ _ _ _ |>.accountSound ?_)
    split
    · exact (KeepsBooks.ite (KeepsBooks.refl _).returnFree (KeepsBooks.refl _).backgroundCheck).accountSound (h.refunded _)
    next vessel =>
      exact State.accountSound_of_vessel _ (Bool.eq_false_iff.2 vessel)

/-- One unit of a passage: a paid one moves from remaining to paid, an unpaid one is charged to a free credit or counted as excess
(R82, R131). -/
theorem countUnit (h : s.accountSound) (k : UnitCount) : (s.countUnit k).1.accountSound := by
  intro hg
  rw [State.isGate_congr (s := s) (by simp)] at hg
  obtain ⟨⟨covered, charged, excess⟩, reserved, ticket, pends, away, tally, entries⟩ := h hg
  unfold State.countUnit
  split
  next some =>
    refine ⟨⟨covered, ?_, excess⟩, reserved, ticket, pends, fun hv => ?_, fun hp => ⟨(tally hp).1, ?_⟩, entries⟩
    · simp only [State.setLane_account, State.setLane_lane]
      omega
    · exact absurd (away hv) some.ne'
    · exact absurd (tally hp).2 some.ne'
  split
  · split
    next free =>
      unfold State.freeCredits State.held at free
      refine ⟨⟨?_, ?_, ?_⟩, reserved, ticket, pends, away, tally, entries⟩ <;>
        simp only [State.setLane_account, State.setAccount_account, State.setLane_lane] <;> omega
    next =>
      refine ⟨⟨covered, ?_, ?_⟩, reserved, ticket, pends, away, tally, entries⟩ <;>
        simp only [State.setLane_account, State.setLane_lane] <;> omega
  · exact h hg

theorem countUnits (n : Nat) (h : s.accountSound) (k : UnitCount) : (State.countUnits n s k).1.accountSound := by
  induction n generalizing s k with
  | zero => exact h
  | succ n ih => exact ih (h.countUnit k) _

end State.accountSound

/-! ## Admission (R65, R81, R92, R94) -/

/-- The lane takes the party; what it commands keeps the books. -/
theorem State.authorise_keepsBooks (s : State) (party : Nat) :
    (s.setLane { s.lane with remaining := party, passageWait := s.fullPassageWait }).KeepsBooks (s.authorise party) :=
  .ite (((State.KeepsBooks.refl _).setLane _ (by rfl)).openCommand _) (.refl _)

/-- A presentation decided: its party is charged and the lane takes it, where the lane and the places are free for it. -/
theorem State.ledgerSound.admitParty (h : s.ledgerSound) (idle : s.isGate = true → s.lane.remaining = 0)
    (shown : s.isGate = true → s.view.state = .opened ∨ s.view.state = .orphaned)
    (gone : s.isGate = true → ∀ e ∈ s.link.queue, e.kind ≠ .ticket) {party : Nat}
    (places : s.isGate = true → s.account.returned + s.account.charged + party ≤ s.account.granted) (number window : Nat) :
    (s.admitParty number party window).accountSound := by
  have taken (x : Timer) : (((s.setAccount
      { s.account with charged := s.account.charged + party, reserved := 0 }).setLane
      { s.lane with remaining := party, passageWait := x }).setAdmission Admission.afterReset).accountSound := by
    refine State.ledgerSound.accountSound_of_none (fun hg => ?_) fun _ => rfl
    obtain ⟨⟨-, charged, excess⟩, -, -, -, tally, entries⟩ := h hg
    have lane := idle hg
    refine ⟨⟨(Nat.add_assoc .. ▸ places hg : _), ?_, excess⟩, rfl, fun ⟨e, he, hk⟩ => absurd hk (gone hg e he), fun hv => ?_,
      fun hp => ?_, entries⟩
    · simp only [State.setAdmission_account, State.setAdmission_lane, State.setLane_account, State.setAccount_account,
        State.setLane_lane]
      omega
    · rcases shown hg with hs | hs <;> cases hs.symm.trans hv
    · rcases shown hg with hs | hs <;> cases hs.symm.trans (tally hp).1
  unfold State.admitParty
  dsimp only
  generalize hc : s.setAccount { s.account with charged := s.account.charged + party, reserved := 0 } = t
  have decided := ((t.authorise_keepsBooks party).raise .admitted number party window).underAdmission
    (a := Admission.afterReset) (b := { (t.authorise party).admission with
      record := none, lastDecided := some number }) rfl
  exact decided.backgroundCheck.accountSound (hc ▸ taken _)

theorem Link.mem_queueTicket {l : Link} {c : TicketContents} {e : TxEntry} (h : e ∈ (l.queueTicket c).queue) :
    e ∈ l.queue ∨ e = { TxEntry.fresh .ticket with ticket := some c } := by
  unfold Link.queueTicket at h
  split at h
  · exact .inl h
  · simpa using h

/-- A presentation that awaits the link has its party reserved and its TICKET queued. -/
theorem State.ledgerSound.awaitLink (h : s.ledgerSound) (shown : s.isGate = true → s.view.state = .opened)
    {p : Presentation} (places : s.isGate = true → s.account.returned + s.account.charged + p.party ≤ s.account.granted) :
    (s.awaitLink p).accountSound := by
  refine State.accountSound_iff.2 ⟨fun hg => ?_, fun hg notOpened => absurd (shown hg) notOpened⟩
  obtain ⟨⟨-, charged, excess⟩, -, -, away, tally, entries⟩ := h hg
  refine ⟨⟨places hg, charged, excess⟩, ?_, fun _ => ⟨_, rfl, rfl⟩, away, tally, fun e he hk => ?_⟩
  · exact (State.partyAside_of_awaitLink _ { p with state := .awaitLink } rfl rfl).symm
  · rcases Link.mem_queueTicket he with he | rfl
    · exact entries e he hk
    · cases hk

end Sys2Proof.Machine
end

section
/-! SUPPORT. A gate's place account through the operations of the lane, the barrier driver, the converter and
the egress unit: one lemma per operation. -/

namespace Sys2Proof.Machine

namespace State.accountSound

open State.KeepsBooks (refl)

variable {s t : State}

theorem keeps (h : s.accountSound) (k : s.KeepsBooks t) : t.accountSound := k.accountSound h

theorem ite {p : Prop} [Decidable p] (hs : s.accountSound) (ht : t.accountSound) :
    (if p then s else t).accountSound := by
  split
  · exact hs
  · exact ht

theorem applyIf {p : Prop} [Decidable p] (hs : s.accountSound) (op : s.accountSound → t.accountSound) :
    (if p then t else s).accountSound := ite (op hs) hs

theorem applyUnless {p : Prop} [Decidable p] (hs : s.accountSound) (op : s.accountSound → t.accountSound) :
    (if p then s else t).accountSound := ite hs (op hs)

/-! ## Updates -/

theorem setPort (h : s.accountSound) (x : HostPort) : (s.setPort x).accountSound := h
theorem setVessel (h : s.accountSound) (x : Vessel) : (s.setVessel x).accountSound := h
theorem setConverter (h : s.accountSound) (x : Converter) : (s.setConverter x).accountSound := h
theorem setBarrier (h : s.accountSound) (x : Barrier) : (s.setBarrier x).accountSound := h
theorem setEgress (h : s.accountSound) (x : Egress) : (s.setEgress x).accountSound := h
theorem raise (h : s.accountSound) (k : EventKind) (a b c : Nat) : (s.raise k a b c).accountSound := h

theorem setLane (h : s.accountSound) (x : Lane) (hx : x.counts = s.lane.counts) : (s.setLane x).accountSound :=
  h.keeps ((refl s).setLane x hx)

theorem settleClear (h : t.accountSound) (s : State) : (settleClear s t).accountSound := h.keeps (refl t).settleClear

/-! ## The presentation -/

/-- While no TICKET is SENDING, a presentation pends in view OPEN alone (R99, R100). -/
theorem record_of_quiet (h : s.accountSound) (hg : s.isGate = true) (quiet : ¬s.ticketStarted = true)
    (hv : s.view.state ≠ .opened) : s.admission.record = none := by
  refine Option.eq_none_iff_forall_not_mem.2 fun p hp => quiet ?_
  exact ((State.accountSound_iff.1 h).2 hg hv p hp).2.1

theorem not_awaitLink_of_quiet (quiet : ¬s.ticketStarted = true) (p : Presentation) (_ : s.admission.record = some p) :
    ¬(p.state = .awaitLink ∧ s.ticketStarted = true) :=
  fun ⟨_, started⟩ => quiet started

/-- A TICKET that is SENDING is that of a presentation in view OPEN or ORPHANED. -/
theorem view_of_started (h : s.accountSound) (hg : s.isGate = true) (started : s.ticketStarted = true) :
    s.view.state = .opened ∨ s.view.state = .orphaned := by
  obtain ⟨-, -, ticket, pends, -⟩ := h hg
  obtain ⟨e, he, kind, -⟩ := State.ticketStarted_iff.1 started
  obtain ⟨p, hp, -⟩ := ticket ⟨e, he, kind⟩
  by_cases hv : s.view.state = .opened
  · exact .inl hv
  · exact .inr (pends hv p hp).1

theorem stopPresentation (h : s.accountSound) (cause : StopCause) : (s.stopPresentation cause).accountSound :=
  h.ledger.stopPresentation h.view_of_started cause

/-- A presentation in AWAIT_PLACES has no TICKET, and pends in view OPEN. -/
theorem awaitPlaces_facts (h : s.accountSound) (hg : s.isGate = true) {p : Presentation}
    (hp : s.admission.record = some p) (hw : p.state = .awaitPlaces) :
    s.view.state = .opened ∧ ∀ e ∈ s.link.queue, e.kind ≠ .ticket := by
  obtain ⟨-, -, ticket, pends, -⟩ := h hg
  have gone : ∀ e ∈ s.link.queue, e.kind ≠ .ticket := by
    intro e he kind
    obtain ⟨q, hq, awaiting⟩ := ticket ⟨e, he, kind⟩
    cases hp.symm.trans hq
    cases hw.symm.trans awaiting
  refine ⟨Decidable.by_contra fun hv => ?_, gone⟩
  obtain ⟨e, he, kind, -⟩ := State.ticketStarted_iff.1 (pends hv p hp).2.1
  exact gone e he kind

/-- Held credits are places that a party can be charged (R64). -/
theorem places_of_held (h : s.accountSound) (hg : s.isGate = true) {n : Nat} (hn : n ≤ s.held) :
    s.account.returned + s.account.charged + n ≤ s.account.granted := by
  obtain ⟨⟨covered, -, -⟩, -⟩ := h hg
  unfold State.held at hn
  omega

/-! ## Faults and the barrier driver (R138, R168 to R172) -/

theorem enterFault (h : s.accountSound) (c : FaultCause) : (s.enterFault c).accountSound :=
  (ite (((h.setLane _ (by rfl)).stopPresentation _).keeps (refl _).enterReturn) (h.setLane _ (by rfl))).raise _ _ _ _

theorem reportFault (h : s.accountSound) (c : FaultCause) : (s.reportFault c).accountSound := by
  unfold State.reportFault
  split
  case h_6 => exact (h.setLane _ (by rfl)).enterFault c
  case h_7 => exact (h.setLane _ (by rfl)).raise _ _ _ _
  case h_8 => exact (h.setLane _ (by rfl)).raise _ _ _ _
  all_goals exact h.enterFault c

theorem halt (h : s.accountSound) (c : FaultCause) : (s.halt c).accountSound := (h.setBarrier _).reportFault c

theorem stallByMode (h : s.accountSound) : s.stallByMode.accountSound := by
  unfold State.stallByMode
  split
  · exact h.halt _
  · exact .ite (h.setBarrier _) (h.halt _)
  · exact h.raise _ _ _ _
  · exact h

theorem travelByMode (h : s.accountSound) : s.travelByMode.accountSound := by
  unfold State.travelByMode
  split
  · exact h.halt _
  · exact .ite (h.setBarrier _) (h.halt _)
  · exact h.keeps ((refl _).takePosition _)
  · exact h.keeps ((refl _).takePosition _)

theorem obstruction (h : s.accountSound) : s.obstruction.accountSound :=
  have counted (n : Nat) := h.setBarrier { s.barrier with obstructions := n }
  .ite ((counted _).keeps (refl _).plateBroken)
    (.ite (((counted _).keeps (refl _).plateBroken).raise _ _ _ _) (counted _).stallByMode)

theorem switchActive (h : s.accountSound) (e : EndId) : (s.switchActive e).accountSound :=
  .ite (.ite h (h.halt _)) (.ite (h.keeps ((refl _).reachEnd _)) (h.setBarrier _))

/-! ## The lane and the converter (R127 to R133, R141, R142, R149 to R154) -/

theorem unarmTracker (h : s.accountSound) : s.unarmTracker.accountSound := (h.setLane _ (by rfl)).tallyCheck

theorem countForward (h : s.accountSound) (multiple : Bool) : (s.countForward multiple).accountSound := by
  have counted := h.countUnits (if multiple then 2 else 1) ⟨0, 0, 0⟩
  unfold State.countForward
  dsimp only
  generalize State.countUnits (if multiple then 2 else 1) s ⟨0, 0, 0⟩ = c at counted ⊢
  have waited (x : Timer) : (c.1.setLane { c.1.lane with passageWait := x }).accountSound := counted.setLane _ rfl
  exact (((waited _).applyIf (·.raise _ _ _ _)).applyIf (·.raise _ _ _ _)).applyUnless (·.keeps (refl _).backgroundCheck)

theorem passageComplete (h : s.accountSound) (d : Direction) (multiple : Bool) :
    (s.passageComplete d multiple).accountSound := by
  cases d
  · exact .ite (h.setLane _ (by rfl)) (.ite (h.countForward _) (h.raise _ _ _ _))
  · exact .ite (h.setLane _ (by rfl)) (.ite (h.raise _ _ _ _) (h.keeps (refl _).alight))

theorem trackerChange (h : s.accountSound) (p : PlateId) (old : PlateClass) : (s.trackerChange p old).accountSound := by
  unfold State.trackerChange
  dsimp only
  split
  · split
    · exact h.setLane _ (by rfl)
    · split
      · split
        · exact ((h.setLane _ (by rfl)).setLane _ (by rfl)).tallyCheck
        · exact (((h.setLane _ (by rfl)).passageComplete _ _).setLane _ (by rfl)).tallyCheck
      · split
        · exact h.setLane _ (by rfl)
        · exact (h.setLane _ (by rfl)).passageComplete _ _
  · exact h

theorem deliverClass (h : s.accountSound) (p : PlateId) (old : PlateClass) : (s.deliverClass p old).accountSound := by
  have told := (h.keeps (((refl s).alightOpen p old).loiterChange p old)).trackerChange p old
  exact .ite (told.keeps (refl _).plateBroken) told

theorem goodConversion (h : s.accountSound) (p : PlateId) (r : Nat) : (s.goodConversion p r).accountSound :=
  (ite (h.setConverter _) ((h.setConverter _).deliverClass _ _)).keeps (refl _).settleCheck

theorem plateFault (h : s.accountSound) (p : PlateId) (k : ConversionResult) : (s.plateFault p k).accountSound := by
  have unarmed {x : Converter} : ((s.setConverter x).unarmTracker.setLane
      ((s.setConverter x).unarmTracker.lane.setLoiter p .stopped)).accountSound := by
    cases p <;> exact (h.setConverter x).unarmTracker.setLane _ (by rfl)
  exact ((ite unarmed (unarmed.deliverClass _ _)).raise _ _ _ _).reportFault _

theorem badConversion (h : s.accountSound) (p : PlateId) (k : ConversionResult) : (s.badConversion p k).accountSound :=
  .ite ((h.setConverter _).plateFault _ _) (h.setConverter _)

theorem restartLane (h : s.accountSound) : s.restartLane.1.accountSound := by
  unfold State.restartLane
  dsimp only
  split
  · exact h
  · exact ((((((h.applyIf (·.stopPresentation _)).refund _).setLane _ (by rfl)).setConverter _).setBarrier _).applyIf
      (·.raise _ _ _ _)).applyIf (·.keeps ((refl _).openCommand _)) |>.tallyCheck.keeps (refl _).holdCheck

theorem laneEgress (h : s.accountSound) : s.laneEgress.accountSound := (h.refund _).setLane _ (by rfl)

theorem laneEgressEnd (h : s.accountSound) : s.laneEgressEnd.accountSound := by
  unfold State.laneEgressEnd
  split
  · exact .ite (((h.setLane _ (by rfl)).stopPresentation _).keeps (refl _).enterReturn) (h.setLane _ (by rfl))
  · exact h.setLane _ (by rfl)

/-! ## Egress (R177 to R181) -/

theorem enterEgress (h : s.accountSound) (o : EgressOrigin) (g : Station) : (s.enterEgress o g).accountSound := by
  unfold State.enterEgress
  exact (((h.setEgress _).raise _ _ _ _).laneEgress.ledger.abortPresentation).keeps
    ((refl _).egressReturn.barrierEgress.closeWindow _).egressStatus

theorem enterOwnEgress (h : s.accountSound) : s.enterOwnEgress.accountSound :=
  (h.enterEgress _ _).keeps ((refl _).queueEvacuation (by rfl))

theorem leaveEgress (h : s.accountSound) (c : LeaveCause) (g : Station) : (s.leaveEgress c g).accountSound :=
  ((((h.setEgress _).setBarrier _).laneEgressEnd.raise _ _ _ _).setLane _ (by rfl)).keeps (refl _).egressStatus

theorem inputRaised (h : s.accountSound) : s.inputRaised.accountSound :=
  .ite h (.ite (.ite ((h.setEgress _).keeps ((refl _).queueEvacuation (by rfl))) h) h.enterOwnEgress)

theorem egressHeard (h : s.accountSound) (g : Station) : (s.egressHeard g).accountSound := .ite h (h.enterEgress _ _)

theorem egressFlagHeard (h : s.accountSound) (g : Station) : (s.egressFlagHeard g).accountSound := .ite h (h.enterEgress _ _)

theorem egressEndHeard (h : s.accountSound) (g : Station) : (s.egressEndHeard g).accountSound :=
  .ite (.ite (h.keeps ((refl _).queueEvacuation (by rfl))) (h.leaveEgress _ _)) h

theorem takeEgressEnd (h : s.accountSound) : s.takeEgressEnd.1.accountSound := by
  unfold State.takeEgressEnd
  split
  · exact h
  split
  · exact ((h.leaveEgress _ _).keeps ((refl _).queueEvacuation (by rfl))).setEgress _
  · exact h

theorem takeStart (h : s.accountSound) : s.takeStart.1.accountSound := by
  have started {u : State} (hu : u.accountSound) : (if u.egress.input then u.enterOwnEgress else u).accountSound :=
    .ite hu.enterOwnEgress hu
  unfold State.takeStart
  split
  · exact started (h.keeps ((((refl s).setLocked _).setPresence _ (by rfl)).setConverter _).startLane)
  · exact h

end State.accountSound
end Sys2Proof.Machine
end

section
/-! SUPPORT. A gate's place account through the window view (R57 to R62), the claims and the GRANT (R70, R71), the requests PRESENT and
CANCEL (R88, R98) and the frames heard. -/

namespace Sys2Proof.Machine

variable {s t : State}

/-! ## The window view (R57 to R60) -/

/-- The view changed to another than NONE, from a view that no TALLY can be pending in. -/
theorem State.ledgerSound.setView (h : s.ledgerSound) {x : WindowView} (hc : s.view.state ≠ .closed) (hx : x.state ≠ .none)
    (hp : x.tallyPending = s.view.tallyPending) : (s.setView x).ledgerSound := by
  intro hg
  obtain ⟨balance, reserved, ticket, -, tally, entries⟩ := h hg
  have notPending : s.view.tallyPending ≠ true := fun pending => hc (tally pending).1
  exact ⟨balance, reserved, ticket, fun hv => absurd hv hx, fun pending => absurd (hp ▸ pending) notPending,
    fun e he hk => absurd (entries e he hk).1 notPending⟩

/-- With no presentation, no remaining passages and no TALLY pending nothing rests on the account. -/
theorem State.accountSound.vacant (h : s.accountSound) (hg : s.isGate = true) (record : s.admission.record = none)
    (remaining : s.lane.remaining = 0) (pending : s.view.tallyPending = false) : s.vacant := by
  obtain ⟨-, -, ticket, -, -, -, entries⟩ := h hg
  refine ⟨record, remaining, pending, fun e he hs => ?_⟩
  rcases hs with hk | hk
  · obtain ⟨p, hp, -⟩ := ticket ⟨e, he, hk⟩
    simp [record] at hp
  · simpa [pending] using (entries e he hk).1

/-- A refund leaves the presentation and no remaining passages. -/
theorem State.refund_leaves (s : State) (cause : RefundCause) :
    (s.refund cause).admission = s.admission ∧ (s.refund cause).lane.remaining = 0 := by
  have told (t : State) : t.tallyCheck.admission = t.admission ∧ t.tallyCheck.lane = t.lane := by
    unfold State.tallyCheck
    split <;> simp
  unfold State.refund
  split
  next none => exact ⟨rfl, none⟩
  next =>
    dsimp only
    rw [(told _).1, (told _).2]
    split <;> simp

namespace State.accountSound

open State.KeepsBooks (refl)

theorem viewOrphan (h : s.accountSound) : s.viewOrphan.accountSound := by
  unfold State.viewOrphan
  split
  next opened =>
    have orphaned : ((s.setView { s.view with state := .orphaned, orphanTimer := .running Config.orphanMs }).raise
        .windowOrphaned s.view.number).ledgerSound := h.ledger.setView (by simp [opened]) nofun rfl
    exact (orphaned.stopPresentation (fun _ _ => .inr rfl) _).keeps (refl _).endClaim
  next => exact h

/-- Closing needs R100: with the TICKET on the line the presentation would be left pending in view CLOSED. -/
theorem viewClose (h : s.accountSound) (quiet : ¬s.ticketStarted = true)
    (shown : s.view.state = .opened ∨ s.view.state = .orphaned) : s.viewClose.accountSound := by
  have closed : s.viewClosed.ledgerSound := h.ledger.setView (by rcases shown with hv | hv <;> simp [hv]) nofun rfl
  rcases shown with opened | orphaned
  · rw [State.viewClose_of_opened opened]
    exact ((closed.stopPresentation (fun _ started => absurd started quiet) _).keeps (refl _).endClaim).tallyCheck
  · rw [State.viewClose_of_orphaned orphaned]
    exact (closed.accountSound_of_none fun hg => h.record_of_quiet hg quiet (by simp [orphaned])).tallyCheck

theorem viewResume (h : s.accountSound) (orphaned : s.view.state = .orphaned) : s.viewResume.accountSound :=
  State.accountSound_iff.2 ⟨h.ledger.setView (by simp [orphaned]) nofun rfl, fun _ notOpened => absurd rfl notOpened⟩

theorem viewOpen (h : s.accountSound) (none : s.view.state = .none) (w offer : Nat) : (s.viewOpen w offer).accountSound := by
  have cleared : (s.setView { s.view with state := .opened, number := w }).clearAccount.accountSound :=
    State.clearAccount_accountSound fun hg => h.vacant_of_none hg none
  exact cleared.keeps ((refl _).raise _ _ _ _).statusTrigger

theorem openShown (h : s.accountSound) (quiet : ¬s.ticketStarted = true) (w offer : Nat) :
    (s.openShown w offer).accountSound := by
  unfold State.openShown
  split
  next none => exact .ite h (h.viewOpen none w offer)
  next opened => exact .ite h (h.viewClose quiet (.inl opened))
  next orphaned => exact .ite (h.viewResume orphaned) (h.viewClose quiet (.inr orphaned))
  next => exact h

theorem closeHeard (h : s.accountSound) (quiet : ¬s.ticketStarted = true) (w : Byte) : (s.closeHeard w).accountSound := by
  unfold State.closeHeard
  split
  next shown => exact h.viewClose quiet shown.1
  next => exact h

theorem vesselStatusHeard (h : s.accountSound) (quiet : ¬s.ticketStarted = true) (w : Byte) (b : List Byte) :
    (s.vesselStatusHeard w b).accountSound := by
  unfold State.vesselStatusHeard
  split
  · exact h.openShown quiet _ _
  split
  next => exact .ite (h.keeps ((refl _).setView _ rfl rfl)) h
  next opened => exact h.viewClose quiet (.inl opened)
  next orphaned => exact h.viewClose quiet (.inr orphaned)
  next => exact h

theorem statusHeard (h : s.accountSound) (quiet : ¬s.ticketStarted = true) (g : Station) (w : Byte) (b : List Byte) :
    (State.statusHeard g w b s).accountSound := by
  have recorded := (refl s).recordStatus g w b
  unfold State.statusHeard
  dsimp only
  have told : (if s.isVessel then (s.recordStatus g w b).gateStatusHeard g w (GateStatus.ofBody b)
      else if g = 0 then (s.recordStatus g w b).vesselStatusHeard w b else s.recordStatus g w b).accountSound := by
    split
    next vessel =>
      refine State.accountSound_of_vessel _ ?_
      rw [State.isGate_congr (s := s) (by simp [recorded.1]), State.isGate, vessel, Bool.not_true]
    next => exact .ite ((h.keeps recorded).vesselStatusHeard (recorded.ticketStarted ▸ quiet) w b) (h.keeps recorded)
  exact .ite (told.egressFlagHeard g) told

/-- The 30 s of an orphaned view end after its presentation was decided (R60, R99). -/
theorem abandon (h : s.accountSound) (quiet : ¬s.ticketStarted = true) (orphaned : s.view.state = .orphaned) :
    s.abandon.accountSound := by
  have view : (s.refund .abandoned).view = s.view := State.refund_view_of_not_closed (by simp [orphaned]) _
  have refunded := h.refund .abandoned
  obtain ⟨admission, remaining⟩ := State.refund_leaves s .abandoned
  have number : (s.refund .abandoned).presence.number = s.presence.number := by simp
  unfold State.abandon
  refine State.clearAccount_accountSound fun hg => ?_
  have gate : s.isGate = true := (State.isGate_congr number).symm.trans hg
  have record : s.admission.record = none := h.record_of_quiet gate quiet (by simp [orphaned])
  obtain ⟨-, -, -, -, -, tally, -⟩ := refunded hg
  refine refunded.vacant hg (admission ▸ record) remaining (Bool.eq_false_iff.2 fun pending => ?_)
  simpa [view, orphaned] using (tally pending).1

end State.accountSound

/-- The end of the gate's TALLY (R62). -/
theorem State.windowEnded_accountSound (h : s.isGate = true → s.admission.record = none ∧ s.lane.remaining = 0 ∧
    ∀ e ∈ s.link.queue, ¬e.kind.IsSlip) (completed : Bool) : (s.windowEnded completed).accountSound := by
  have cleared (w : Nat) : (s.setView { s.view with
      tallyPending := false, lastTallied := w, state := .none, number := 0 }).clearAccount.accountSound :=
    State.clearAccount_accountSound fun hg => by
      obtain ⟨record, remaining, empty⟩ := h hg
      exact ⟨record, remaining, rfl, empty⟩
  exact (cleared _).raise _ _ _ _

/-! ## Claims and the GRANT (R70, R71, R91) -/

/-- A raised granted total leaves the account in balance. -/
theorem State.KeepsBooks.raiseGranted (s : State) (full : Bool) {n : Nat} (hn : s.account.granted ≤ n) :
    s.KeepsBooks (s.setAccount { s.account with granted := n, full := full }) := by
  refine ⟨rfl, fun ⟨covered, charged, excess⟩ => ⟨covered.trans hn, charged, excess⟩, rfl, rfl, rfl, rfl, rfl, .refl _⟩

theorem le_foldl_max (l : List Nat) (n : Nat) : n ≤ l.foldl max n := by
  induction l generalizing n with
  | nil => exact Nat.le_refl n
  | cons a l ih => exact (Nat.le_max_left n a).trans (ih _)

/-- A lane that a presentation waits for has no remaining passages (log entry 31). -/
abbrev State.laneFree (s : State) : Prop := s.admission.record ≠ none → s.lane.remaining = 0

theorem State.KeepsBooks.quiet (k : s.KeepsBooks t) (h : ¬s.ticketStarted = true) : ¬t.ticketStarted = true := by
  rwa [k.ticketStarted]

theorem State.KeepsBooks.laneFree (k : s.KeepsBooks t) (h : s.laneFree) : t.laneFree := by
  unfold State.laneFree
  rwa [k.record, k.remaining]

/-- What a PRESENT that passes the checks of R88 found. -/
theorem State.presentCheck_eq_none {key : TicketKey} {cls party : Nat} (h : s.presentCheck key cls party = none) :
    s.lane.state = .idle ∧ s.admission.record = none ∧ s.view.state = .opened := by
  simp only [State.presentCheck, ite_eq_iff, reduceCtorEq, and_false, false_or, and_true] at h
  obtain ⟨-, -, -, free, -, shown, -⟩ := h
  exact ⟨by_contra fun hl => free (.inl hl), by_contra fun hr => free (.inr hr), by_contra shown⟩

namespace State.accountSound

open State.KeepsBooks (refl)

theorem claimReport (h : s.accountSound) (free : s.laneFree) (c : ClaimCause) : (s.claimReport c).accountSound := by
  unfold State.claimReport
  split
  next => exact h
  next p record =>
  split
  next waiting =>
    have notSent (q : Presentation) (hq : s.admission.record = some q) : ¬(q.state = .awaitLink ∧ s.ticketStarted = true) := by
      cases record.symm.trans hq
      simp [waiting]
    have shown (hg : s.isGate = true) := (h.awaitPlaces_facts hg record waiting).1
    split
    next places =>
      exact .ite (h.ledger.admitParty (fun _ => free (by simp [record])) (fun hg => .inl (shown hg))
          (fun hg => (h.awaitPlaces_facts hg record waiting).2) (fun hg => h.places_of_held hg places) _ _)
        (h.ledger.awaitLink shown fun hg => h.places_of_held hg places)
    next => exact h.ledger.refuse notSent _ _
  next => exact h

theorem endClaimWith (h : s.accountSound) (free : s.laneFree) (c : ClaimCause) : (s.endClaimWith c).accountSound :=
  have dropped := (refl s).dropClaim
  .ite ((h.keeps dropped).claimReport (dropped.laneFree free) c) (h.keeps dropped)

theorem grantEndsClaim (h : s.accountSound) (free : s.laneFree) (n : Nat) : (s.grantEndsClaim n).accountSound :=
  .ite h (.ite (h.endClaimWith free _) (.ite (h.endClaimWith free _) h))

theorem grantHeard (h : s.accountSound) (free : s.laneFree) (w : Byte) (b : List Byte) : (s.grantHeard w b).accountSound := by
  unfold State.grantHeard
  split
  · dsimp only
    have raised := State.KeepsBooks.raiseGranted s (decide (wordAt b 0 = 0))
      (le_foldl_max (grantedTo s.presence.number b) s.account.granted)
    have told := (h.keeps raised).applyUnless (p := (grantedTo s.presence.number b).isEmpty = true)
      (·.grantEndsClaim (raised.laneFree free) (wordAt b 0))
    exact (told.applyIf (·.keeps (refl _).returnFree)).applyIf (·.keeps (refl _).backgroundCheck)
  · exact h

/-! ## PRESENT, CANCEL and a peer's TICKET (R88 to R90, R97, R98) -/

/-- A presentation accepted at a free lane in view OPEN. -/
theorem acceptPresentation (h : s.accountSound) (record : s.admission.record = none) (remaining : s.lane.remaining = 0)
    (opened : s.view.state = .opened) (p : Presentation) : (s.acceptPresentation p).accountSound := by
  have gone (hg : s.isGate = true) : ∀ e ∈ s.link.queue, e.kind ≠ .ticket := fun e he hk => by
    obtain ⟨-, -, ticket, -⟩ := h hg
    obtain ⟨q, hq, -⟩ := ticket ⟨e, he, hk⟩
    simp [record] at hq
  unfold State.acceptPresentation
  split
  next places =>
    have covered (hg : s.isGate = true) := h.places_of_held hg places
    exact .ite (h.ledger.admitParty (fun _ => remaining) (fun _ => .inl opened) gone covered _ _)
      (h.ledger.awaitLink (fun _ => opened) covered)
  next =>
    have waits : (s.setAdmission { s.admission with record := some { p with state := .awaitPlaces } }).accountSound := by
      refine State.accountSound_iff.2 ⟨fun hg => ?_, fun _ notOpened => absurd opened notOpened⟩
      obtain ⟨balance, reserved, -, away, tally, entries⟩ := h.ledger hg
      exact ⟨balance, reserved.trans (by simp [State.partyAside, record]), fun ⟨e, he, hk⟩ => absurd hk (gone hg e he), away,
        tally, entries⟩
    exact waits.keeps ((refl _).demand _)

theorem takePresent (h : s.accountSound) (idle : s.lane.state = .idle → s.lane.remaining = 0) (key : TicketKey)
    (cls party : Byte) : (State.takePresent key cls party s).1.accountSound := by
  unfold State.takePresent
  split
  next => exact h
  next passed =>
    obtain ⟨laneIdle, record, opened⟩ := State.presentCheck_eq_none passed
    have counted (n : Nat) : (s.setAdmission { s.admission with counter := n }).accountSound :=
      h.keeps ((refl s).setAdmission _ (by rfl))
    exact (counted ((s.admission.counter + 1) % 256)).acceptPresentation record (idle laneIdle) opened _

theorem takeCancel (h : s.accountSound) (number : Byte) : (State.takeCancel number s).1.accountSound := by
  unfold State.takeCancel
  split
  next => exact h
  next p record =>
    split
    · split
      next => exact h
      next notSent => exact h.ledger.refuse (fun q hq => by cases record.symm.trans hq; exact notSent) _ _
    · exact h

theorem peerTicket (h : s.accountSound) (g : Station) (key : TicketKey) : (s.peerTicket g key).accountSound := by
  unfold State.peerTicket
  split
  next => exact h
  next p record =>
    split
    next found => exact h.ledger.refuse (fun q hq => by cases record.symm.trans hq; exact found.2) _ _
    next => exact h

theorem ticketHeard (h : s.accountSound) (g : Station) (w : Byte) (b : List Byte) :
    (State.ticketHeard g w b s).accountSound :=
  (h.peerTicket g _).keeps ((refl _).offerTicket _ _ _ _ _ _)

/-- A good frame heard (R6): it is delivered to a state that keeps the books. -/
theorem heard (h : s.accountSound) (g : Station) (passes : Bool) {deliver : State → State}
    (hd : ∀ t, s.KeepsBooks t → (deliver t).accountSound) : (s.heard g passes deliver).accountSound :=
  have told := (refl s).delivered g
  .ite h (.ite (.ite (hd _ told) (h.keeps told)) (h.keeps ((refl s).frameTaken g)))

end State.accountSound
end Sys2Proof.Machine
end

section
/-! SUPPORT. A gate's place account through the starts and the ends of transmissions (R14 to R20, R62, R93, R94). -/

namespace Sys2Proof.Machine

variable {l : Link} {r s t : State} {e : TxEntry} {rest : List TxEntry}

/-! ## The transmit queue -/

/-- The head of a sound queue: sound, alone of its kind, and the only one that can be SENDING (R19). -/
theorem Link.queueSound.head (h : l.queueSound) (hq : l.queue = e :: rest) :
    e.sound ∧ (∀ x ∈ rest, x.kind ≠ e.kind) ∧ ∀ x ∈ rest, x.sending = false := by
  obtain ⟨sound, kinds, -, waiting, -⟩ := h
  rw [hq] at sound kinds waiting
  simp only [List.map_cons, List.nodup_cons, List.mem_map, not_exists, not_and] at kinds
  exact ⟨sound e (by simp), kinds.1, waiting⟩

theorem State.not_started_of_waiting (h : ∀ e ∈ s.link.queue, e.sending = false) : ¬s.ticketStarted = true := by
  rw [State.ticketStarted_iff]
  rintro ⟨e, he, -, sending⟩
  simp [h e he] at sending

/-- The deferred slot holds an evacuation kind alone (R20). -/
def Link.slotEvacuates (l : Link) : Prop := ∀ k, l.deferred = some k → k.isEvacuation = true

theorem Link.queueSound.slotEvacuates (h : l.queueSound) : l.slotEvacuates := fun k hk => (h.2.2.2.2 k hk).1

theorem Link.Moves.slotEvacuates {m : Link} (hm : l.Moves m) (h : l.slotEvacuates) : m.slotEvacuates :=
  fun k hk => h k (hm.deferred_of_deferred hk)

theorem Link.takeDeferred_sameSlips (h : l.slotEvacuates) : l.SameSlips l.takeDeferred := by
  unfold Link.takeDeferred
  split
  · exact .refl l
  next k hk => exact (Link.SameSlips.of_queue_eq rfl).trans (Link.queueEvacuation_sameSlips _ (h k hk))

/-- A head that is no TICKET and no TALLY leaves, or joins again at the tail (R18, R19). -/
theorem Link.headLeaves_sameSlips (hq : l.queue = e :: rest) (hk : ¬e.kind.IsSlip) {m : Link}
    (hm : m.queue = rest ∨ ∃ x : TxEntry, x.kind = e.kind ∧ m.queue = rest ++ [x]) : l.SameSlips m := by
  intro y hy
  have other {x : TxEntry} (hx : x.kind = e.kind) : y ≠ x := by
    rintro rfl
    exact hk (hx ▸ hy)
  rcases hm with hm | ⟨x, hx, hm⟩
  · simp [hq, hm, other rfl]
  · simp [hq, hm, other rfl, other hx]

theorem Link.headLeaves_slipsFrom (hq : l.queue = e :: rest) {m : Link} (hm : m.queue = rest) : l.SlipsFrom m :=
  fun x hx _ => ⟨x, by simp [hq, hm ▸ hx], rfl, id⟩

theorem Link.headReplaced_slipsFrom (hq : l.queue = e :: rest) {x : TxEntry} (hk : x.kind = e.kind)
    (hr : x.requeue = true → e.requeue = true) {m : Link} (hm : m.queue = x :: rest) : l.SlipsFrom m := by
  intro y hy _
  rw [hm] at hy
  rcases List.mem_cons.1 hy with rfl | hy
  · exact ⟨e, by simp [hq], hk.symm, hr⟩
  · exact ⟨y, by simp [hq, hy], rfl, id⟩

/-- The queue after a first or second loss: the head is WAITING again (R17). -/
abbrev Link.headLost (l : Link) (e : TxEntry) (rest : List TxEntry) : Link :=
  { l with queue := { e with sending := false, attempts := e.attempts + 1, requeue := false } :: rest, txFrame := none }

theorem Link.queueSound.loseThird_slotEvacuates (h : s.link.queueSound) (hq : s.link.queue = e :: rest) :
    (s.loseThird e rest).link.slotEvacuates := by
  have moved : Link.Moves { (s.dropReport e).link with queue := rest, txFrame := none } (s.loseThird e rest).link :=
    (Link.Moves.ownerDropped (s := (s.dropReport e).setLink _) .refl e).requeueMarked (h.head hq).1
  have slot : (s.dropReport e).link.slotEvacuates := by
    rw [show (s.dropReport e).link = s.link by simp]
    exact h.slotEvacuates
  exact moved.slotEvacuates slot

/-! ## What leaves the books alone -/

namespace State.KeepsBooks

theorem serveDeferred (h : r.KeepsBooks s) (hd : s.link.slotEvacuates) : r.KeepsBooks s.serveDeferred :=
  h.setLink (Link.takeDeferred_sameSlips hd)

/-- The owner of an entry that is no TICKET and no TALLY is told of its removal. -/
theorem ownerDropped (h : r.KeepsBooks s) (hk : ¬e.kind.IsSlip) : r.KeepsBooks (s.ownerDropped e) := by
  unfold State.ownerDropped
  split
  next hk' => exact absurd (.inl hk') hk
  next => exact h.requeueGrant
  next hk' => exact absurd (.inr hk') hk
  all_goals exact h

theorem requeueMarked (h : r.KeepsBooks s) (hk : ¬e.kind.IsSlip) : r.KeepsBooks (s.requeueMarked e) := by
  unfold State.requeueMarked
  split
  · split
    next evac => exact h.queueEvacuation evac
    next => exact h.queueKind hk
  · exact h

/-- The owner of an entry that is no TICKET and no TALLY is told of its completion. -/
theorem ownerCompleted (h : r.KeepsBooks s) (hk : ¬e.kind.IsSlip) (f : Frame) : r.KeepsBooks (s.ownerCompleted e f) := by
  unfold State.ownerCompleted
  split
  · exact h.statusCompleted f
  · exact h.grantCompleted f
  next hk' => exact absurd (.inl hk') hk
  next hk' => exact absurd (.inr hk') hk
  all_goals exact h

end State.KeepsBooks

/-! ## The ends of a transmission -/

/-- An account is sound that is sound at a gate: the vessel station has none to keep. -/
theorem State.accountSound_of_gate (hn : t.presence.number = s.presence.number) (h : s.isGate = true → t.accountSound) :
    t.accountSound := by
  intro hg
  exact h ((State.isGate_congr hn).symm.trans hg) hg

namespace State.accountSound

open State.KeepsBooks (refl)

/-- The queue changed with no new TICKET or TALLY, and a TICKET that was SENDING still so. -/
theorem setLink (h : s.accountSound) {x : Link} (hx : s.link.SlipsFrom x)
    (hs : s.ticketStarted = true → (s.setLink x).ticketStarted = true) : (s.setLink x).accountSound := by
  obtain ⟨ledger, pends⟩ := State.accountSound_iff.1 h
  refine State.accountSound_iff.2 ⟨ledger.setLink hx, fun hg notOpened p hp => ?_⟩
  obtain ⟨orphaned, started, noted⟩ := pends hg notOpened p hp
  exact ⟨orphaned, hs started, noted⟩

/-- A TALLY stands in the queue with no presentation, no remaining passages and no requeue mark (R61). -/
theorem tally_facts (h : s.accountSound) (hg : s.isGate = true) (he : e ∈ s.link.queue) (hk : e.kind = .tally) :
    s.admission.record = none ∧ s.lane.remaining = 0 ∧ (∀ x ∈ s.link.queue, x.kind ≠ .ticket) ∧ e.requeue = false := by
  obtain ⟨-, -, ticket, pends, -, tally, entries⟩ := h hg
  obtain ⟨pending, mark⟩ := entries e he hk
  obtain ⟨closed, remaining⟩ := tally pending
  have record : s.admission.record = none :=
    Option.eq_none_iff_forall_not_mem.2 fun p hp => by simpa [closed] using (pends (by simp [closed]) p hp).1
  refine ⟨record, remaining, fun x hx kind => ?_, mark⟩
  obtain ⟨p, hp, -⟩ := ticket ⟨x, hx, kind⟩
  simp [record] at hp

theorem slip_unmarked (h : s.accountSound) (sound : s.link.queueSound) (hg : s.isGate = true) (he : e ∈ s.link.queue)
    (hk : e.kind.IsSlip) : e.requeue = false := by
  rcases hk with kind | kind
  · exact Bool.eq_false_iff.2 fun marked => ((sound.1 e he).isPlain marked).1 kind
  · exact (h.tally_facts hg he kind).2.2.2

/-- The head TALLY leaves the queue and ends the window (R62). -/
theorem tallyLeaves (h : s.accountSound) (sound : s.link.queueSound) (hg : s.isGate = true)
    (hq : s.link.queue = e :: rest) (hk : e.kind = .tally) {x : Link} (hx : x.queue = rest) (completed : Bool) :
    ((s.setLink x).windowEnded completed).accountSound := by
  obtain ⟨record, remaining, noTicket, -⟩ := h.tally_facts hg (e := e) (by simp [hq]) hk
  obtain ⟨-, alone, -⟩ := sound.head hq
  refine State.windowEnded_accountSound (s := s.setLink x) (fun _ => ⟨record, remaining, fun y hy slip => ?_⟩) _
  replace hy : y ∈ rest := hx ▸ hy
  rcases slip with kind | kind
  · exact noTicket y (by simp [hq, hy]) kind
  · exact alone y hy (kind.trans hk.symm)

theorem loseOnce (h : s.accountSound) (sound : s.link.queueSound) (hq : s.link.queue = e :: rest) :
    (s.loseOnce e rest).accountSound := by
  obtain ⟨-, -, waiting⟩ := sound.head hq
  have slips : s.link.SlipsFrom (s.link.headLost e rest) := Link.headReplaced_slipsFrom hq
    (x := { e with sending := false, attempts := e.attempts + 1, requeue := false }) rfl nofun rfl
  have quiet : ¬(s.setLink (s.link.headLost e rest)).ticketStarted = true :=
    State.not_started_of_waiting (by simpa using waiting)
  unfold State.loseOnce
  dsimp only
  split
  next => exact (h.ledger.setLink slips).refuse (State.accountSound.not_awaitLink_of_quiet quiet) _ _
  next notNoted =>
    obtain ⟨ledger, pends⟩ := State.accountSound_iff.1 h
    refine State.accountSound_iff.2 ⟨ledger.setLink slips, fun hg notOpened p hp => ?_⟩
    obtain ⟨-, started, noted⟩ := pends hg notOpened p hp
    obtain ⟨x, hx, kind, sending⟩ := State.ticketStarted_iff.1 started
    rw [hq] at hx
    rcases List.mem_cons.1 hx with rfl | hx
    · obtain ⟨cause, hc⟩ := Option.ne_none_iff_exists'.1 noted
      have record : s.admission.record = some p := hp
      exact (notNoted cause kind (by simp [record, hc])).elim
    · simp [waiting x hx] at sending

theorem loseThird (h : s.accountSound) (sound : s.link.queueSound) (hg : s.isGate = true)
    (hq : s.link.queue = e :: rest) : (s.loseThird e rest).accountSound := by
  obtain ⟨-, -, waiting⟩ := sound.head hq
  have told := (refl s).dropReport e
  have link : (s.dropReport e).link = s.link := by simp
  unfold State.loseThird
  dsimp only
  generalize s.dropReport e = t at told link ⊢
  have queue : t.link.queue = e :: rest := link ▸ hq
  by_cases slip : e.kind.IsSlip
  · have unmarked := h.slip_unmarked sound hg (e := e) (by simp [hq]) slip
    rw [State.requeueMarked, if_neg (by simp [unmarked])]
    rcases slip with kind | kind
    · simp only [State.ownerDropped, kind]
      refine ((told.ledgerSound h.ledger).setLink (Link.headLeaves_slipsFrom queue rfl)).refuse ?_ _ _
      exact State.accountSound.not_awaitLink_of_quiet (State.not_started_of_waiting waiting)
    · simp only [State.ownerDropped, kind]
      exact (h.keeps told).tallyLeaves (link ▸ sound) (told.isGate ▸ hg) queue kind rfl _
  · exact h.keeps (((told.setLink (Link.headLeaves_sameSlips queue slip (.inl rfl))).ownerDropped slip).requeueMarked slip)

theorem lose (h : s.accountSound) (sound : s.link.queueSound) : s.lose.accountSound := by
  refine State.accountSound_of_gate (s := s) (by simp) fun hg => ?_
  unfold State.lose
  split
  next => exact h
  next e rest hq =>
    split
    next =>
      have slot : (if e.attempts < 2 then s.loseOnce e rest else s.loseThird e rest).link.slotEvacuates := by
        split
        · exact Link.Moves.slotEvacuates (l := s.link.headLost e rest) (.loseOnce .refl) sound.slotEvacuates
        · exact sound.loseThird_slotEvacuates hq
      exact (ite (h.loseOnce sound hq) (h.loseThird sound hg hq)).keeps ((refl _).serveDeferred slot)
    next => exact h

theorem startHead (h : s.accountSound) (sound : s.link.queueSound) (hq : s.link.queue = e :: rest)
    (hw : ¬e.sending = true) (slots : Nat) : (s.startHead e rest slots).accountSound := by
  have quiet : ¬s.ticketStarted = true := State.not_started_of_waiting fun x hx => by
    rcases List.mem_cons.1 (hq ▸ hx) with rfl | hx
    · exact Bool.eq_false_iff.2 hw
    · exact (sound.head hq).2.2 x hx
  unfold State.startHead
  split
  · exact h.setLink (Link.headReplaced_slipsFrom hq (x := { e with sending := true }) rfl id rfl) fun started =>
      absurd started quiet
  · exact h.setLink (Link.headLeaves_slipsFrom hq rfl) fun started => absurd started quiet

/-- The own TICKET completes (R93, R94): its presentation is admitted to a lane free for it (log entry 31). -/
theorem ticketCompleted (h : s.accountSound) (sound : s.link.queueSound) (free : s.laneFree) (hq : s.link.queue = e :: rest)
    (hk : e.kind = .ticket) (hs : e.sending = true) {x : Link} (hx : x.queue = rest) :
    ((s.setLink x).ticketCompleted e).accountSound := by
  have left : (s.setLink x).ledgerSound := h.ledger.setLink (Link.headLeaves_slipsFrom hq hx)
  have started : s.ticketStarted = true := State.ticketStarted_iff.2 ⟨e, by simp [hq], hk, hs⟩
  have admitted : (match (s.setLink x).admission.record with
      | some p => (s.setLink x).admitParty p.number p.party p.window
      | none => s.setLink x).accountSound := by
    split
    next p record =>
      refine left.admitParty (fun _ => free (by simp [show s.admission.record = some p from record]))
        (fun hg => h.view_of_started hg started) (fun _ y hy kind => ?_) (fun hg => ?_) _ _
      · exact (sound.head hq).2.1 y (hx ▸ hy) (kind.trans hk.symm)
      · obtain ⟨⟨covered, -, -⟩, reserved, ticket, -⟩ := h hg
        obtain ⟨q, hp, awaiting⟩ := ticket ⟨e, by simp [hq], hk⟩
        cases (show s.admission.record = some p from record).symm.trans hp
        rw [reserved, State.partyAside_of_awaitLink s p hp awaiting] at covered
        exact covered
    next none => exact left.accountSound_of_none fun _ => none
  unfold State.ticketCompleted
  dsimp only
  split
  · exact admitted.keeps ((refl _).offerTicket _ _ _ _ _ _)
  · exact admitted

theorem ownFrameComplete (h : s.accountSound) (sound : s.link.queueSound) (free : s.laneFree)
    (hq : s.link.queue = e :: rest) (hs : e.sending = true) {x : Link} (hx : x.queue = afterCompletion e rest) (f : Frame) :
    ((s.setLink x).ownerCompleted e f).accountSound := by
  refine State.accountSound_of_gate (s := s) (by simp) fun hg => ?_
  unfold afterCompletion at hx
  by_cases slip : e.kind.IsSlip
  · have unmarked := h.slip_unmarked sound hg (e := e) (by simp [hq]) slip
    rw [if_neg (by simp [unmarked])] at hx
    rcases slip with kind | kind <;> simp only [State.ownerCompleted, kind]
    · exact h.ticketCompleted sound free hq kind hs hx
    · exact h.tallyLeaves sound hg hq kind hx _
  · refine h.keeps (((refl s).setLink (Link.headLeaves_sameSlips hq slip ?_)).ownerCompleted slip f)
    rw [hx]
    split
    · exact .inr ⟨{ e with sending := false, attempts := 0, requeue := false }, rfl, rfl⟩
    · exact .inl rfl

end State.accountSound
end Sys2Proof.Machine
end

section
/-! SUPPORT. A gate's place account through every command (R64, R81), at the times that the manual allows (R99, R100, R121). -/

namespace Sys2Proof.Machine

variable {s t : State}

/-- A command answers a state with its account sound. -/
abbrev BalancedAfter (o : Host.Outcome State Fault Refusal) : Prop := AnswersWith State.accountSound o

/-! ## Requests -/

@[simp] theorem State.takeOpenWindow_presence (s : State) : s.takeOpenWindow.1.presence = s.presence := by
  unfold State.takeOpenWindow
  split <;> [skip; split] <;> simp

@[simp] theorem State.takeCloseWindow_presence (s : State) : s.takeCloseWindow.1.presence = s.presence := by
  unfold State.takeCloseWindow
  split <;> simp

@[simp] theorem State.takeSetOnboard_presence (n : Word16) (s : State) :
    (State.takeSetOnboard n s).1.presence = s.presence := by
  unfold State.takeSetOnboard
  split <;> simp

namespace State.accountSound

theorem takeRequest (h : s.accountSound) {role : RequestRole} {body : State → State × Reply}
    (hb : s.hasRole role = true → (body s).1.accountSound) : (s.takeRequest role body).accountSound :=
  State.takeRequest_keeps (Q := State.accountSound) h (fun _ _ ht => ht) hb

/-- A request of the vessel station: it has no account to keep. -/
theorem takeVesselRequest (h : s.accountSound) {body : State → State × Reply}
    (hn : (body s).1.presence.number = s.presence.number) : (s.takeRequest .vessel body).accountSound := by
  refine h.takeRequest fun vessel => State.accountSound_of_vessel _ ?_
  rw [State.isGate_congr hn, State.isGate, show s.isVessel = true from vessel, Bool.not_true]

/-- A request answered from the host port, the configuration and the events alone. -/
theorem takeHostRequest (h : s.accountSound) {role : RequestRole} {body : State → State × Reply}
    (hb : OnlyHost s (body s).1) : (s.takeRequest role body).accountSound := by
  obtain ⟨link, presence, -, view, account, admission, -, lane, -⟩ := hb
  exact h.takeRequest fun _ => State.accountSound_congr s _ (by rw [presence]) account admission lane view (by rw [link]) h

/-- What a frame makes of the vessel station alone. -/
theorem atVessel (h : s.accountSound) (hn : t.presence.number = s.presence.number) :
    (if s.isVessel then t else s).accountSound := by
  split
  next vessel => exact State.accountSound_of_vessel _ (by rw [State.isGate_congr hn, State.isGate, vessel, Bool.not_true])
  next => exact h

end State.accountSound

/-! ## Every command -/

section

open State.KeepsBooks (refl)

theorem State.accountSound_afterReset (straps : Station) (hsel : Bool) : (State.afterReset straps hsel).accountSound :=
  fun _ => by simp [State.afterReset, State.inBalance, State.partyAside, Account.afterReset, Lane.afterReset,
    Admission.afterReset, WindowView.afterReset, Link.afterReset]

theorem State.fullReset_accountSound (s : State) (straps : Station) : (s.fullReset straps).accountSound :=
  State.accountSound_afterReset straps s.port.hsel

/-! ## The frames of another station, while the own TICKET is not on the line (R100) -/

theorem exec_frame_balancedAfter (c : Instr) (hc : isFrameHeard c = true) (h : s.accountSound)
    (quiet : ¬s.ticketStarted = true) (free : s.laneFree) : BalancedAfter (exec c s) := by
  cases c with
  | unknownKindFrame g k w b => exact .next (.ite (h.heard g false fun _ => h.keeps) h)
  | statusFrame g w b => exact .next ((h.heard g _ fun _ k => (h.keeps k).statusHeard (k.quiet quiet) g w b).settleClear s)
  | offerFrame g w b =>
    exact .next ((h.heard g _ fun _ k => .ite ((h.keeps k).openShown (k.quiet quiet) _ _) (h.keeps k)).settleClear s)
  | closeFrame g w b =>
    exact .next ((h.heard g _ fun _ k => .ite ((h.keeps k).closeHeard (k.quiet quiet) w) (h.keeps k)).settleClear s)
  | grantFrame g w b =>
    exact .next ((h.heard g _ fun _ k => .ite ((h.keeps k).grantHeard (k.laneFree free) w b) (h.keeps k)).settleClear s)
  | claimFrame g w b => exact .next (h.heard g _ fun _ k => (h.keeps k).atVessel (by simp))
  | tallyFrame g w b => exact .next (h.heard g _ fun _ k => (h.keeps k).atVessel (by simp))
  | ticketFrame g w b => exact .next ((h.heard g _ fun _ k => (h.keeps k).ticketHeard g w b).settleClear s)
  | egressFrame g w b => exact .next ((h.heard g _ fun _ k => (h.keeps k).egressHeard g).settleClear s)
  | egressEndFrame g w b => exact .next ((h.heard g _ fun _ k => (h.keeps k).egressEndHeard g).settleClear s)
  | _ => cases hc

/-! ## The other commands -/

theorem execHostSessionEnd_balancedAfter (h : s.accountSound) (straps : Station) :
    BalancedAfter (execHostSessionEnd straps s) :=
  .next (.ite (.ite (.ite (State.fullReset_accountSound _ straps) (h.setPort _)) (.ite (h.setPort _) (h.setPort _))) h)

theorem execSelftest_balancedAfter (h : s.accountSound) : BalancedAfter (execSelftest s) :=
  .next (.ite (.ite (h.keeps (((refl s).setPort _).setLink (.of_queue_eq rfl))) (h.setPort _)) h)

theorem execSelftestEnd_balancedAfter (h : s.accountSound) (received : List Bool) :
    BalancedAfter (execSelftestEnd received s) :=
  .next (.ite (h.keeps (((refl s).setLink (.of_queue_eq rfl)).setPort _)) h)

theorem execRequestFailsMessageCheck_balancedAfter (h : s.accountSound) (m : List Byte) :
    BalancedAfter (execRequestFailsMessageCheck m s) := by
  refine .next ?_
  split
  · split
    · exact h.setPort _
    · exact h
  · exact h

theorem execTransmitStart_balancedAfter (h : s.accountSound) (sound : s.link.queueSound) (slots : Nat) :
    BalancedAfter (execTransmitStart slots s) := by
  refine .next ?_
  split
  next => exact h
  next e rest hq =>
    split
    next start => exact h.startHead sound hq (by simpa using start.2) slots
    next => exact h

theorem execReadbackFault_balancedAfter (h : s.accountSound) (sound : s.link.queueSound) :
    BalancedAfter (execReadbackFault s) := by
  refine .next ?_
  split
  · exact h
  · have heard : (s.setLink s.link.hunting).accountSound := h.keeps ((refl s).setLink (.of_queue_eq rfl))
    exact .ite ((heard.lose (Link.queueSound_congr sound rfl rfl)).settleClear s) h

theorem execOwnFrameComplete_balancedAfter (h : s.accountSound) (sound : s.link.queueSound) (free : s.laneFree) :
    BalancedAfter (execOwnFrameComplete s) := by
  refine .next ?_
  split
  next => exact h
  next e rest hq =>
    split
    next sending =>
      have told := h.ownFrameComplete sound free hq sending (x := { s.link.hunting with
        queue := afterCompletion e rest, txFrame := none, lastSender := s.presence.number }) rfl (s.frameOf e)
      have slot := Link.Moves.slotEvacuates (Link.Moves.ownerCompleted (s := s.setLink { s.link.hunting with
        queue := afterCompletion e rest, txFrame := none, lastSender := s.presence.number }) .refl e (s.frameOf e))
        sound.slotEvacuates
      exact (told.keeps ((refl _).serveDeferred slot)).settleClear s
    next => exact h

theorem execKeptDemandStart_balancedAfter (h : s.accountSound) : BalancedAfter (execKeptDemandStart s) := by
  refine .next ?_
  split
  · exact .ite (h.keeps (((refl s).setAccount _ (by rfl)).demand _)) h
  · exact h

theorem execSilenceTimerExpiry_balancedAfter (h : s.accountSound) (peer : Station) :
    BalancedAfter (execSilenceTimerExpiry peer s) := by
  have lost : (s.peerSilent peer).accountSound := h.keeps (((refl s).setPresence _ (by rfl)).raise _ _ _ _)
  exact .next (.ite (.settleClear (.ite lost.viewOrphan lost) s) h)

theorem execOrphanTimerExpiry_balancedAfter (h : s.accountSound) (quiet : ¬s.ticketStarted = true) :
    BalancedAfter (execOrphanTimerExpiry s) := by
  refine .next ?_
  split
  next due => exact (h.abandon quiet due.2).settleClear s
  next => exact h

theorem execLoiterTimerExpiry_balancedAfter (h : s.accountSound) (p : PlateId) :
    BalancedAfter (execLoiterTimerExpiry p s) := by
  have stopped : (s.setLane (s.lane.setLoiter p .stopped)).accountSound := by cases p <;> exact h.setLane _ (by rfl)
  exact .next (.ite (stopped.raise _ _ _ _) h)

theorem execListenTimerExpiry_balancedAfter (h : s.accountSound) : BalancedAfter (execListenTimerExpiry s) := by
  have alone : s.KeepsBooks (s.setLink { s.link with lastSender := 15 }) := (refl s).setLink (.of_queue_eq rfl)
  exact .next (.ite (h.keeps (((alone.setPresence _ (by rfl)).raise _ _ _ _).queueKind (by decide))) h)

theorem execTrackerArm_balancedAfter (h : s.accountSound) : BalancedAfter (execTrackerArm s) :=
  .next (.ite (.settleClear (.ite ((h.setLane _ (by rfl)).keeps (refl _).closeCommand) (h.setLane _ (by rfl))) s) h)

theorem execStall_balancedAfter (h : s.accountSound) : BalancedAfter (execStall s) :=
  .next (.ite (.settleClear (.ite h.obstruction h.stallByMode) s) h)

theorem execEndSwitchActive_balancedAfter (h : s.accountSound) (e : EndId) : BalancedAfter (execEndSwitchActive e s) :=
  .next (.ite h (((h.setBarrier _).switchActive e).settleClear s))

/-- Every command but a byte of the host port keeps the account sound. -/
theorem exec_balancedAfter_of_ne_byte (c : Instr) (hc : ∀ b, c ≠ .hostByteCompleted b) (h : s.accountSound)
    (sound : s.link.queueSound) (free : s.lane.state = .idle ∨ s.admission.record ≠ none → s.lane.remaining = 0)
    (times : s.ticketStarted = true → isFrameHeard c = false ∧ c ≠ .orphanTimerExpiry) : BalancedAfter (exec c s) := by
  by_cases hf : isFrameHeard c = true
  · exact exec_frame_balancedAfter c hf h (fun started => by simp [(times started).1] at hf) fun hr => free (.inr hr)
  cases c with
  | fullReset straps => exact .next (s.fullReset_accountSound straps)
  | hostSessionEnd straps => exact execHostSessionEnd_balancedAfter h straps
  | replyReady | hselAsserted => exact .next (.ite (h.setPort _) h)
  | selftest => exact execSelftest_balancedAfter h
  | selftestEnd received => exact execSelftestEnd_balancedAfter h received
  | identify | reset | configure _ | lookup _ | query _ | readEvent | peekEvent | setMask _ =>
    exact .next (h.takeHostRequest (by simp))
  | start => exact .next ((h.takeRequest fun _ => h.takeStart).settleClear s)
  | laneRestart => exact .next ((h.takeRequest fun _ => h.restartLane).settleClear s)
  | clearFault => exact .next ((h.takeRequest fun _ => h.keeps (refl s).clearFaults).settleClear s)
  | egressEnd => exact .next ((h.takeRequest fun _ => h.takeEgressEnd).settleClear s)
  | present key cls party =>
    exact .next ((h.takeRequest fun _ => h.takePresent (fun idle => free (.inl idle)) key cls party).settleClear s)
  | cancel number => exact .next ((h.takeRequest fun _ => h.takeCancel number).settleClear s)
  | hold => exact .next ((h.takeRequest fun _ => h.keeps (refl s).takeHold).settleClear s)
  | release => exact .next (h.takeRequest fun _ => h.keeps (refl s).takeRelease)
  | openWindow | setLaneMode _ => exact .next ((h.takeVesselRequest (by simp)).settleClear s)
  | closeWindow | setOnboard _ => exact .next (h.takeVesselRequest (by simp))
  | lineIdle => exact .next (.ite h (h.keeps ((refl s).setLink (.of_queue_eq rfl))))
  | lineBusy => exact .next (h.keeps ((refl s).setLink (.of_queue_eq rfl)))
  | openingFlagFound => exact .next (.ite (h.keeps ((refl s).setLink (.of_queue_eq rfl))) h)
  | frameAbortHeard | badFrame _ => exact .next (.ite h (h.keeps ((refl s).setLink (.of_queue_eq rfl))))
  | transmitStart slots => exact execTransmitStart_balancedAfter h sound slots
  | lostArbitration => exact .next ((h.lose sound).settleClear s)
  | readbackFault => exact execReadbackFault_balancedAfter h sound
  | ownFrameComplete => exact execOwnFrameComplete_balancedAfter h sound fun hr => free (.inr hr)
  | unknownKindFrame | statusFrame | offerFrame | closeFrame | grantFrame | claimFrame | tallyFrame | ticketFrame | egressFrame
  | egressEndFrame => exact absurd rfl hf
  | listenTimerExpiry => exact execListenTimerExpiry_balancedAfter h
  | isolationTimerExpiry =>
    exact .next (.ite (h.keeps ((((refl s).setPresence _ (by rfl)).raise _ _ _ _).closeWindow _)) h)
  | rollTimerExpiry =>
    exact .next (.ite (h.keeps (((refl s).setPresence _ (by rfl)).queueKind (by decide)).backgroundCheck) h)
  | silenceTimerExpiry peer => exact execSilenceTimerExpiry_balancedAfter h peer
  | tallyTimerExpiry => exact .next (.ite (h.keeps ((refl s).completeWindow _)) h)
  | orphanTimerExpiry => exact execOrphanTimerExpiry_balancedAfter h fun started => (times started).2 rfl
  | keptDemandStart => exact execKeptDemandStart_balancedAfter h
  | claimRepeatTimerExpiry => exact .next (.ite (h.keeps (((refl s).setAccount _ (by rfl)).queueKind (by decide))) h)
  | claimWaitTimerExpiry =>
    exact .next (.ite ((h.endClaimWith (fun hr => free (.inr hr)) _).settleClear s) h)
  | listSecondTimerExpiry => exact .next (.ite (h.keeps ((refl s).setList _)) h)
  | passageWaitExpiry => exact .next (.ite ((h.refund _).settleClear s) h)
  | clearTimerExpiry => exact .next (.ite (((h.setLane _ (by rfl)).keeps (refl _).closeCommand).settleClear s) h)
  | trackerArm => exact execTrackerArm_balancedAfter h
  | loiterTimerExpiry p => exact execLoiterTimerExpiry_balancedAfter h p
  | zeroPhaseEnd offset =>
    exact .phaseEnd _ h fun _ => .ite (h.setConverter _) ((h.badConversion _ _).settleClear s)
  | integratePhaseEnd => exact .phaseEnd _ h fun _ => h.setConverter _
  | rundownCrossing r => exact .phaseEnd _ h fun _ => .ite ((h.goodConversion _ _).settleClear s) h
  | rundownOverrange => exact .phaseEnd _ h fun _ => (h.badConversion _ _).settleClear s
  | endSwitchActive e => exact execEndSwitchActive_balancedAfter h e
  | endSwitchInactive e => exact .next (.ite (.ite (((h.setBarrier _).setBarrier _).raise _ _ _ _) (h.setBarrier _)) h)
  | stall => exact execStall_balancedAfter h
  | brakeTimerExpiry => exact .next (.ite (h.setBarrier _) h)
  | travelTimerExpiry => exact .next (.ite ((h.setBarrier _).travelByMode.settleClear s) h)
  | pauseTimerExpiry => exact .next (.ite (((h.setBarrier _).keeps (refl _).endPause).settleClear s) h)
  | pendingCloseTaken => exact .next (.ite ((h.keeps (refl s).commandTaken.beginClose).settleClear s) h)
  | reDriveStart => exact .next (.ite ((h.setBarrier _).settleClear s) h)
  | egressInputActive => exact .next (.ite h ((h.setEgress _).inputRaised.settleClear s))
  | egressInputInactive => exact .next (h.setEgress _)
  | hostByteCompleted b => exact absurd rfl (hc b)
  | requestFailsMessageCheck m => exact execRequestFailsMessageCheck_balancedAfter h m
  | millisecondCountAdvance => exact .next h

end

/-- No message spells a frame of another station or the orphan timer's expiry. -/
theorem requestOf_timely {m : List Byte} {c : Instr} (h : requestOf m = some c) :
    isFrameHeard c = false ∧ c ≠ .orphanTimerExpiry := by
  unfold requestOf at h
  split at h <;> cases h <;> exact ⟨rfl, nofun⟩

theorem exec_balancedAfter (c : Instr) (h : s.accountSound) (sound : s.link.queueSound)
    (free : s.lane.state = .idle ∨ s.admission.record ≠ none → s.lane.remaining = 0)
    (times : s.ticketStarted = true → isFrameHeard c = false ∧ c ≠ .orphanTimerExpiry) : BalancedAfter (exec c s) := by
  cases c with
  | hostByteCompleted b =>
    exact execHostByteCompleted_answersWith
      (P := fun t => t.accountSound ∧ t.link.queueSound ∧
        (t.lane.state = .idle ∨ t.admission.record ≠ none → t.lane.remaining = 0)) b (fun _ ht => ht.1) (fun _ _ ht => ht)
      (fun _ c _ hr ⟨h, sound, free⟩ =>
        exec_balancedAfter_of_ne_byte c (requestOf_ne_byte hr) h sound free fun _ => requestOf_timely hr)
      ⟨h, sound, free⟩
  | _ => exact exec_balancedAfter_of_ne_byte _ (by simp) h sound free times

/-- What a sound account says of held and the free credits: they are true differences (R64). -/
theorem State.accountSound.balance (h : s.accountSound) (hg : s.isGate = true) :
    (s.held : Int) = s.account.granted - s.account.returned - s.account.charged ∧
      (s.freeCredits : Int) = s.held - s.account.reserved ∧
      (s.account.charged : Int) = s.lane.paid + s.lane.unpaid - s.lane.excess + s.lane.remaining := by
  obtain ⟨⟨covered, charged, excess⟩, -⟩ := h hg
  unfold State.freeCredits State.held
  omega

/-- Settles O14: every command keeps the account sound at the manual's times, and a sound account is in balance. -/
theorem accountStaysInBalance : Obligations.AccountStaysInBalance := by
  refine ⟨fun s t h sound ⟨times, free⟩ hstep => ?_, fun s h hn => h.balance (State.isGate_iff.2 hn)⟩
  refine AnswersWith.of_step (Q := State.accountSound) hstep (fun _ => h) fun c rest hp => ?_
  exact exec_balancedAfter (s := s.setPending rest) c h sound free fun started => times started c (by simp [hp])

end Sys2Proof.Machine
end

section
/-! SUPPORT. PRESENT at a gate (R88 to R90, R92, R94): the checks in their order, and the three ways an accepted presentation goes. -/

namespace Sys2Proof.Machine

section Present

variable {s : State} {key : TicketKey} {cls party : Byte} {body : State → State × Reply}

/-! ## A gate's request taken, or refused by role (R184) -/

/-- A request of the gate station at a gate. -/
theorem State.takeRequest_gate (hc : s.canTake = true) (hn : s.presence.number ≠ 0) :
    s.takeRequest .gate body = (body s).1.reply (body s).2 :=
  State.takeRequest_of_role hc (State.isGate_iff.2 hn)

/-- A request of the gate station at the vessel station. -/
theorem State.takeRequest_gate_of_vessel (hc : s.canTake = true) (hn : s.presence.number = 0) :
    s.takeRequest .gate body = s.reply ⟨2, [16, 0]⟩ :=
  State.takeRequest_of_otherRole hc fun hg => State.isGate_iff.1 hg hn

/-! ## The checks of R88 -/

/-- A station that may not transmit is in SETUP or LISTEN (R1, R14). -/
theorem State.mayTransmit_eq_false_iff :
    (!s.mayTransmit) = true ↔ s.presence.state = .setup ∨ s.presence.state = .listen := by
  unfold State.mayTransmit
  cases s.presence.state <;> decide

theorem State.inEgress_iff : s.inEgress = true ↔ s.egress.state = .egress := beq_iff_eq

theorem State.isListed_iff : s.isListed key = true ↔ ∃ e ∈ s.list.entries, e.key = key := by
  simp [State.isListed]

/-- The reason byte of the first failing check of R88, 0 when all pass. -/
def State.presentReason (s : State) (key : TicketKey) (cls party : Byte) : Byte :=
  if s.presence.state = .setup ∨ s.presence.state = .listen then 1
  else if s.egress.state = .egress then 2
  else if s.lane.state = .held ∨ s.lane.state = .fault ∨ s.lane.holdPending then 3
  else if s.lane.state ≠ .idle ∨ s.admission.record.isSome then 4
  else if 7 < cls.toNat ∨ party.toNat = 0 ∨ (s.classRecord cls.toNat).maxParty < party.toNat then 5
  else if s.view.state ≠ .opened then 6
  else if ∃ e ∈ s.list.entries, e.key = key then 7
  else 0

/-- No check of R88 fails. -/
theorem State.presentReason_of_passes (station : s.presence.state = .active ∨ s.presence.state = .isolated)
    (normal : s.egress.state = .normal) (idle : s.lane.state = .idle) (noHold : s.lane.holdPending = false)
    (free : s.admission.record = none) (known : cls.toNat ≤ 7) (one : 1 ≤ party.toNat)
    (fits : party.toNat ≤ (s.classRecord cls.toNat).maxParty) (shown : s.view.state = .opened)
    (unlisted : ∀ e ∈ s.list.entries, e.key ≠ key) : s.presentReason key cls party = 0 := by
  have started : ¬(s.presence.state = .setup ∨ s.presence.state = .listen) := by
    rcases station with h | h <;> simp [h]
  have inRange : ¬(7 < cls.toNat ∨ party.toNat = 0 ∨ (s.classRecord cls.toNat).maxParty < party.toNat) := by omega
  have absent : ¬∃ e ∈ s.list.entries, e.key = key := fun ⟨e, he, hk⟩ => unlisted e he hk
  rw [State.presentReason, if_neg started, if_neg (by simp [normal]), if_neg (by simp [idle, noHold]),
    if_neg (by simp [idle, free]), if_neg inRange, if_neg (by simp [shown]), if_neg absent]

/-- The class and party of a PRESENT fail their check (R88). -/
theorem State.classCheck_fails_iff {c n : Nat} :
    (!(decide (c ≤ 7) && decide (1 ≤ n) && decide (n ≤ (s.classRecord c).maxParty))) = true ↔
      7 < c ∨ n = 0 ∨ (s.classRecord c).maxParty < n := by
  simp only [Bool.not_eq_true', Bool.and_eq_false_iff, decide_eq_false_iff_not]
  omega

/-- The checks of a PRESENT, read as R96's reason byte. -/
theorem State.presentCheck_code (s : State) (key : TicketKey) (cls party : Byte) :
    ((s.presentCheck key cls.toNat party.toNat).elim 0 fun reason => byteOf reason.code) =
      s.presentReason key cls party := by
  simp only [State.presentCheck, apply_ite (Option.elim · (0 : Byte) fun reason : Reason => byteOf reason.code)]
  refine if_congr State.mayTransmit_eq_false_iff rfl <| if_congr State.inEgress_iff rfl <| if_congr .rfl rfl <|
    if_congr (or_congr_right Option.isSome_iff_ne_none.symm) rfl <| if_congr State.classCheck_fails_iff rfl <|
    if_congr .rfl rfl <| if_congr State.isListed_iff rfl rfl

/-- No reason of R96 has the code 0. -/
theorem Reason.byte_ne_zero (reason : Reason) : byteOf reason.code ≠ 0 := by
  cases reason <;> decide

theorem exec_present_of_vessel (hc : s.canTake = true) (hn : s.presence.number = 0) :
    exec (.present key cls party) s = .next (settleClear s (s.reply ⟨2, [16, 0]⟩)) :=
  congrArg (Host.Outcome.next <| settleClear s ·) (State.takeRequest_gate_of_vessel hc hn)

/-- PRESENT at a gate, before its checks are looked at. -/
theorem exec_present_of_gate (hc : s.canTake = true) (hn : s.presence.number ≠ 0) :
    exec (.present key cls party) s = .next (settleClear s
      ((State.takePresent key cls party s).1.reply (State.takePresent key cls party s).2)) :=
  congrArg (Host.Outcome.next <| settleClear s ·) (State.takeRequest_gate hc hn)

/-- A failing check refuses the PRESENT and leaves the state (R88). -/
theorem State.takePresent_of_reason (h : s.presentReason key cls party ≠ 0) :
    State.takePresent key cls party s = (s, ⟨2, [s.presentReason key cls party, 0]⟩) := by
  rw [← State.presentCheck_code] at h ⊢
  unfold State.takePresent
  cases hr : s.presentCheck key cls.toNat party.toNat with
  | none => exact absurd (hr ▸ rfl) h
  | some reason => rfl

/-! ## What a lane, a claim and a queue make of an accepted party -/

/-- From IDLE with the barrier CLOSED and its OPEN switch inactive, an admitted party's lane opens at once (R121, R163). -/
theorem State.authorise_of_closed (idle : s.lane.state = .idle) (closed : s.barrier.state = .closed)
    (away : s.barrier.openSwitch = false) (party : Nat) :
    s.authorise party =
      (s.setLane { s.lane with state := .opening, remaining := party, passageWait := s.fullPassageWait }).setBarrier
        ({ s.barrier with pendingClose := false, reDrive := none }.driveOpen .command) := by
  simp [State.authorise, State.openCommand, State.beginOpen, State.commandTaken, idle, closed, away]

/-- The admission of a party to such a lane (R94). -/
theorem State.admitParty_of_closed (idle : s.lane.state = .idle) (closed : s.barrier.state = .closed)
    (away : s.barrier.openSwitch = false) (number party window : Nat) :
    s.admitParty number party window =
      (((((s.setAccount { s.account with charged := s.account.charged + party, reserved := 0 }).setLane
        { s.lane with state := .opening, remaining := party, passageWait := s.fullPassageWait }).setBarrier
          ({ s.barrier with pendingClose := false, reDrive := none }.driveOpen .command)).raise .admitted number party
            window).setAdmission { s.admission with record := none, lastDecided := some number }).backgroundCheck := by
  have opens := State.authorise_of_closed
    (s := s.setAccount { s.account with charged := s.account.charged + party, reserved := 0 }) idle closed away party
  rw [State.admitParty, opens]
  rfl

/-- A demand before the view is announced is kept (R68). -/
theorem State.demand_of_unannounced (hc : s.account.claim = .none) (ha : ¬s.account.announced = true) (party : Nat) :
    s.demand party = s.setAccount { s.account with kept := some party } := by
  rw [State.demand, if_pos hc, if_neg ha]

/-! ## The rows of R89 -/

theorem State.acceptPresentation_of_noHoldTime {p : Presentation} (places : p.party ≤ s.held)
    (now : (s.classRecord p.cls).holdTime = 0) : s.acceptPresentation p = s.admitParty p.number p.party p.window := by
  rw [State.acceptPresentation, if_pos places, if_pos now]

theorem State.acceptPresentation_of_holdTime {p : Presentation} (places : p.party ≤ s.held)
    (later : (s.classRecord p.cls).holdTime ≠ 0) : s.acceptPresentation p = s.awaitLink p := by
  rw [State.acceptPresentation, if_pos places, if_neg later]

theorem State.acceptPresentation_of_short {p : Presentation} (short : s.held < p.party) :
    s.acceptPresentation p = s.awaitPlaces p :=
  if_neg (Nat.not_le.2 short)

/-- With no TICKET queued, the one of a presentation that enters AWAIT_LINK goes to the end of the queue (R19, R92). -/
theorem State.awaitLink_of_noTicket {p : Presentation} (hn : ∀ e ∈ s.link.queue, e.kind ≠ .ticket) :
    s.awaitLink p =
      ((s.setAccount { s.account with reserved := p.party }).setAdmission
        { s.admission with record := some { p with state := .awaitLink } }).setLink
          { s.link with
            queue := s.link.queue ++
              [{ TxEntry.fresh .ticket with
                  ticket := some { window := p.window, key := p.key, cls := p.cls, party := p.party } }] } :=
  congrArg (State.setLink _) (Link.queueTicket_of_absent _ hn)

/-- The presentation counter at a new number (R87). -/
def State.numbered (s : State) (number : Nat) : State := s.setAdmission { s.admission with counter := number }

/-- The presentation that a PRESENT makes (R87, R89). -/
def State.presented (s : State) (key : TicketKey) (cls party : Byte) (number : Nat) : Presentation :=
  { number := number, key := key, cls := cls.toNat, party := party.toNat, window := s.view.number,
    state := .awaitLink, stopCause := none }

/-- With no failing check the presentation counter advances and the presentation is accepted (R89). -/
theorem State.takePresent_of_accepted (h : s.presentReason key cls party = 0) {n : Nat}
    (hn : n = (s.admission.counter + 1) % 256) :
    State.takePresent key cls party s =
      ((s.numbered n).acceptPresentation (s.presented key cls party n),
        ⟨3, [BitVec.ofNat 8 n]⟩) := by
  rw [← State.presentCheck_code] at h
  subst hn
  unfold State.takePresent
  cases hr : s.presentCheck key cls.toNat party.toNat with
  | none => rfl
  | some reason =>
    rw [hr] at h
    exact absurd h reason.byte_ne_zero

/-- The presentation counter runs from 0 to 255 and wraps (R87). -/
theorem counter_succ {n : Nat} (h : n ≤ 255) : (if n < 255 then n + 1 else 0) = (n + 1) % 256 := by
  split <;> omega

end Present

/-- Settles O29: the checks of the model, read as reason bytes, are the chain of R88; a reason other than 0 refuses. -/
theorem presentChecksInOrder : Obligations.PresentChecksInOrder := by
  intro s key cls party hc
  refine ⟨exec_present_of_vessel hc, fun hn reason chain failing => ?_⟩
  have read : reason = s.presentReason key cls party := chain
  subst read
  rw [exec_present_of_gate hc hn, State.takePresent_of_reason failing]

/-- Settles O30: the accepted PRESENT, by the three rows of R89; the last by the claim it finds. -/
theorem presentIsAccepted : Obligations.PresentIsAccepted := by
  intro s key cls party hc hn station normal idle noHold free known one fits shown unlisted n p counted
  have passes := State.presentReason_of_passes station normal idle noHold free known one fits shown unlisted
  have taken : exec (.present key cls party) s = .next (settleClear s
      (((s.numbered n).acceptPresentation p).reply ⟨3, [BitVec.ofNat 8 n]⟩)) := by
    rw [exec_present_of_gate hc hn, State.takePresent_of_accepted passes (counter_succ counted)]
    rfl
  rw [taken]
  refine ⟨?_, ?_, ?_⟩
  · intro places now closed away lane barrier
    rw [State.acceptPresentation_of_noHoldTime places now,
      State.admitParty_of_closed (s := s.numbered n) idle closed away]
    rfl
  · intro places later noTicket
    rw [State.acceptPresentation_of_holdTime places later,
      State.awaitLink_of_noTicket (s := s.numbered n) noTicket]
    rfl
  · intro short waiting total claiming
    rw [State.acceptPresentation_of_short short]
    have demanded : (s.numbered n).awaitPlaces p = waiting.demand p.party := rfl
    rw [demanded]
    split
    next outstanding => rw [State.demand_of_claim (s := waiting) outstanding]; rfl
    next unclaimed =>
      have unclaimed : waiting.account.claim = .none := not_not.1 unclaimed
      split
      next announced => rw [State.demand_of_none unclaimed announced]; rfl
      next unannounced => rw [State.demand_of_unannounced unclaimed unannounced]; rfl

end Sys2Proof.Machine
end

section
/-! SUPPORT. CANCEL and what a refusal does (R95, R98, R135): the refused presentation gone, its reservation lapsed and its kept demand
dropped, before the hold check; then the hold check by its condition. -/

namespace Sys2Proof.Machine

section Refusal

variable {s : State} {p : Presentation} {number : Byte}

/-! ## What returns and the hold check leave of the account (R79, R135) -/

@[simp] theorem State.returnFree_account (s : State) :
    s.returnFree.account.granted = s.account.granted ∧ s.returnFree.account.charged = s.account.charged ∧
      s.returnFree.account.reserved = s.account.reserved ∧ s.returnFree.account.claim = s.account.claim ∧
      s.returnFree.account.kept = s.account.kept := by
  unfold State.returnFree State.statusTrigger
  split
  · simp
  · split <;> simp [State.queueKind]

/-- A lapse ends the reservation and leaves the claim alone (R65). -/
@[simp] theorem State.lapse_account (s : State) :
    s.lapse.account.granted = s.account.granted ∧ s.lapse.account.charged = s.account.charged ∧
      s.lapse.account.reserved = 0 ∧ s.lapse.account.claim = s.account.claim := by
  unfold State.lapse
  dsimp only
  split <;> simp

/-- An ended claim is NONE, and the places stay (R72). -/
@[simp] theorem State.endClaim_account (s : State) :
    s.endClaim.account.granted = s.account.granted ∧ s.endClaim.account.charged = s.account.charged ∧
      s.endClaim.account.reserved = s.account.reserved ∧ s.endClaim.account.claim = .none ∧
      s.endClaim.account.kept = s.account.kept := by
  unfold State.endClaim
  split
  next none => simp [none]
  next => simp [State.dropClaim, State.withdraw]

@[simp] theorem State.holdCheck_account (s : State) :
    s.holdCheck.account.granted = s.account.granted ∧ s.holdCheck.account.charged = s.account.charged ∧
      s.holdCheck.account.reserved = s.account.reserved ∧ s.holdCheck.account.kept = s.account.kept ∧
      s.holdCheck.admission = s.admission := by
  unfold State.holdCheck
  split <;> simp [State.holdEffective, State.enterReturn]

theorem State.holdCheck_of_notDue (h : s.lane.state ≠ .idle ∨ s.lane.holdPending = false) : s.holdCheck = s := by
  refine if_neg fun ⟨_, idle, _, pending⟩ => ?_
  rcases h with h | h
  · exact h idle
  · simp [h] at pending

theorem State.holdCheck_of_due (gate : s.isGate = true) (idle : s.lane.state = .idle) (free : s.admission.record = none)
    (pending : s.lane.holdPending = true) : s.holdCheck = s.holdEffective :=
  if_pos ⟨gate, idle, free, pending⟩

/-! ## The refusal (R95) -/

/-- The withdrawal of the TICKET and the end of the reservation of a presentation that goes (R22, R65). -/
def State.ticketReleased (s : State) (p : Presentation) : State :=
  if p.state = .awaitLink then (s.withdraw .ticket).lapse else s

/-- A refused presentation is gone, its kept demand dropped and REFUSED raised; the hold check follows. -/
def State.refused (s : State) (p : Presentation) (reason : Reason) (detail : Nat) : State :=
  (((s.ticketReleased p).setAccount { (s.ticketReleased p).account with kept := none }).raise .refused p.number reason.code
    detail).setAdmission { s.admission with record := none, lastDecided := some p.number }

@[simp] theorem State.ticketReleased_frame (s : State) (p : Presentation) : OnlyAccount s (s.ticketReleased p) := by
  unfold State.ticketReleased
  split <;> simp

@[simp] theorem State.ticketReleased_account (s : State) (p : Presentation) :
    (s.ticketReleased p).account.granted = s.account.granted ∧ (s.ticketReleased p).account.charged = s.account.charged ∧
      (s.ticketReleased p).account.claim = s.account.claim := by
  unfold State.ticketReleased
  split <;> simp

theorem State.refuse_eq (record : s.admission.record = some p) (reason : Reason) (detail : Nat) :
    s.refuse reason detail = (s.refused p reason detail).holdCheck := by
  have kept : (s.ticketReleased p).admission = s.admission := by simp
  rw [State.refused, ← kept, State.refuse, record]
  rfl

/-- What every refusal does to the record and the account, and what it leaves alone. -/
theorem State.refuse_leaves (record : s.admission.record = some p) (reason : Reason) (detail : Nat) :
    (s.refuse reason detail).admission = { s.admission with record := none, lastDecided := some p.number } ∧
      (s.refuse reason detail).account.charged = s.account.charged ∧
      (s.refuse reason detail).account.granted = s.account.granted ∧ (s.refuse reason detail).account.kept = none := by
  rw [State.refuse_eq record]
  simp [State.refused]

/-- A presentation in AWAIT_LINK leaves no reservation, and no TICKET but one that is SENDING. -/
theorem State.refuse_of_awaitLink (record : s.admission.record = some p) (awaiting : p.state = .awaitLink) (reason : Reason)
    (detail : Nat) :
    (s.refuse reason detail).account.reserved = 0 ∧
      ∀ e ∈ (s.refuse reason detail).link.queue, e.kind = .ticket → e.sending = true := by
  have released : s.ticketReleased p = (s.withdraw .ticket).lapse := if_pos awaiting
  have reserved : (s.refused p reason detail).account.reserved = 0 := by simp [State.refused, released]
  have slips : (s.withdraw .ticket).link.SameSlips (s.refused p reason detail).holdCheck.link := by
    have lapsed := (s.withdraw .ticket).lapse_keepsBooks.slips
    rw [← released] at lapsed
    exact lapsed.trans (State.KeepsBooks.refl (s.refused p reason detail)).holdCheck.slips
  rw [State.refuse_eq record]
  refine ⟨by simp [reserved], fun e he ticket => ?_⟩
  exact s.link.mem_withdraw .ticket ((slips e (.inl ticket)).1 he) ticket

/-- With no hold to become effective the refusal raises REFUSED alone, and leaves claim and lane. -/
theorem State.refuse_of_noHold (record : s.admission.record = some p)
    (noHold : s.lane.state ≠ .idle ∨ s.lane.holdPending = false) (reason : Reason) (detail : Nat) :
    (s.refuse reason detail).account.claim = s.account.claim ∧ (s.refuse reason detail).lane = s.lane ∧
      (s.refuse reason detail).events =
        s.events.raise .refused (word16 p.number) (word16 reason.code) (word16 detail) := by
  have lane : (s.refused p reason detail).lane = s.lane := by simp [State.refused]
  rw [State.refuse_eq record, State.holdCheck_of_notDue (lane ▸ noHold)]
  simp [State.refused, State.raise]

/-- A pending hold becomes effective at a gate whose lane is IDLE (R135). -/
theorem State.refuse_of_hold (record : s.admission.record = some p) (gate : s.isGate = true) (idle : s.lane.state = .idle)
    (pending : s.lane.holdPending = true) (reason : Reason) (detail : Nat) :
    (s.refuse reason detail).lane = { s.lane with state := .held, holdPending := false } ∧
      (s.refuse reason detail).account.claim = .none := by
  have lane : (s.refused p reason detail).lane = s.lane := by simp [State.refused]
  have stillGate : (s.refused p reason detail).isGate = true := by
    rwa [State.isGate_congr (s := s) (by simp [State.refused])]
  rw [State.refuse_eq record, State.holdCheck_of_due stillGate (lane ▸ idle) rfl (lane ▸ pending)]
  simp [State.holdEffective, State.enterReturn, lane]

/-! ## CANCEL (R98) -/

theorem exec_cancel_of_gate (hc : s.canTake = true) (hn : s.presence.number ≠ 0) :
    exec (.cancel number) s = .next (settleClear s
      ((State.takeCancel number s).1.reply (State.takeCancel number s).2)) :=
  congrArg (Host.Outcome.next <| settleClear s ·) (State.takeRequest_gate hc hn)

/-- A presentation with its TICKET SENDING is past cancelling. -/
theorem State.takeCancel_of_started (record : s.admission.record = some p) (named : p.number = number.toNat)
    (awaiting : p.state = .awaitLink) (started : s.ticketStarted = true) :
    State.takeCancel number s = (s, ⟨6, []⟩) := by
  rw [State.takeCancel, record]
  exact (if_pos named).trans (if_pos ⟨awaiting, started⟩)

theorem State.takeCancel_of_notStarted (record : s.admission.record = some p) (named : p.number = number.toNat)
    (waiting : ¬(p.state = .awaitLink ∧ s.ticketStarted = true)) :
    State.takeCancel number s = (s.refuse .cancelled 0, ⟨1, []⟩) := by
  rw [State.takeCancel, record]
  exact (if_pos named).trans (if_neg waiting)

/-- CANCEL of a number that no pending presentation has. -/
theorem State.takeCancel_of_absent (absent : ∀ p, s.admission.record = some p → p.number ≠ number.toNat) :
    State.takeCancel number s = (s, if s.admission.lastDecided = some number.toNat then ⟨6, []⟩ else ⟨5, []⟩) := by
  unfold State.takeCancel
  split
  next => rfl
  next p record => exact if_neg (absent p record)

end Refusal

/-- Settles O31: CANCEL by the presentation it finds; the refusal as the refused presentation followed by the hold check. -/
theorem cancelAndRefusal : Obligations.CancelAndRefusal := by
  refine ⟨fun s number hc hn => ⟨fun p record named => ⟨?_, ?_⟩, fun absent => ?_⟩, ?_⟩
  · intro awaiting sending
    rw [exec_cancel_of_gate hc hn, State.takeCancel_of_started record named awaiting (State.ticketStarted_iff.2 sending)]
  · intro waiting
    have notStarted : ¬(p.state = .awaitLink ∧ s.ticketStarted = true) := by
      rintro ⟨awaiting, started⟩
      obtain ⟨e, he, ticket, sending⟩ := State.ticketStarted_iff.1 started
      rcases waiting with waiting | waiting
      · simp [awaiting] at waiting
      · simp [waiting e he ticket] at sending
    rw [exec_cancel_of_gate hc hn, State.takeCancel_of_notStarted record named notStarted]
  · rw [exec_cancel_of_gate hc hn, State.takeCancel_of_absent absent]
  · intro s p reason detail record t
    obtain ⟨admission, charged, granted, kept⟩ := State.refuse_leaves record reason detail
    obtain ⟨view, remaining, -⟩ := s.refuse_report reason detail
    refine ⟨admission, charged, granted, kept, remaining, by simp [t], view, by simp [t],
      fun awaiting => State.refuse_of_awaitLink record awaiting reason detail,
      fun noHold => State.refuse_of_noHold record noHold reason detail,
      fun gate idle pending => State.refuse_of_hold record gate idle pending reason detail⟩

end Sys2Proof.Machine
end

section
/-! SUPPORT. A TICKET heard (R97, R109 to R113): the pending presentation with its key, the offer to the recent admission list by what
the list holds, and the list's second. -/

namespace Sys2Proof.Machine

section Tickets

variable {s : State} {g : Station} {window : Byte} {body : List Byte} {key : TicketKey}

/-! ## The key at the admission unit (R97) -/

theorem exec_ticketFrame (h : s.hears g) (hf : formatCheck .ticket g window body = true) :
    exec (.ticketFrame g window body) s = .next (settleClear s (State.ticketHeard g window body (s.delivered g))) := by
  simp only [exec, execTicketFrame, hf, State.heard_of_hears s g _ h]

theorem State.peerTicket_of_none (record : s.admission.record = none) : s.peerTicket g key = s := by
  rw [State.peerTicket, record]

theorem State.peerTicket_of_record {p : Presentation} (record : s.admission.record = some p) :
    s.peerTicket g key =
      if p.key = key ∧ ¬(p.state = .awaitLink ∧ ∃ e ∈ s.link.queue, e.kind = .ticket ∧ e.sending = true) then
        s.refuse .claimedElsewhere g.toNat
      else s := by
  rw [State.peerTicket, record]
  exact if_congr (and_congr_right' (not_congr (and_congr_right' State.ticketStarted_iff))) rfl rfl

/-! ## Keys in the list (R107, R111) -/

theorem keyHigh_eq (k : TicketKey) : keyHigh k = k.toNat / 65536 := by
  have := k.isLt
  simp only [keyHigh, BitVec.extractLsb'_toNat, Nat.shiftRight_eq_div_pow]
  omega

theorem keyLow_eq (k : TicketKey) : keyLow k = k.toNat % 65536 := by
  simp [keyLow]

/-- The entry found is the first with the key. -/
theorem RecentList.find_of_first {l : RecentList} {before after : List ListEntry} {e : ListEntry}
    (entries : l.entries = before ++ e :: after) (he : e.key = key) (first : ∀ x ∈ before, x.key ≠ key) :
    l.find key = some e := by
  have skipped : before.find? (fun x => x.key == key) = none := by simpa using first
  rw [RecentList.find, entries, List.find?_append, skipped]
  simp [he]

theorem RecentList.find_of_absent {l : RecentList} (absent : ∀ e ∈ l.entries, e.key ≠ key) : l.find key = none := by
  simpa [RecentList.find] using absent

/-! ## The offer (R110 to R112) -/

variable {cls party number : Nat} {origin : ListOrigin}

theorem State.offerTicket_of_duplicate {e : ListEntry} (listed : s.list.find key = some e) :
    s.offerTicket key cls party g number origin =
      s.raise .duplicateAdmission (key.toNat / 65536) (key.toNat % 65536) (e.station.toNat * 16 + g.toNat) := by
  rw [State.offerTicket, listed, ← keyHigh_eq, ← keyLow_eq]

/-- A class without hold time is not listed. -/
theorem State.offerTicket_of_noHold (absent : s.list.find key = none) (h : (s.classRecord cls).holdTime = 0) :
    s.offerTicket key cls party g number origin = s := by
  rw [State.offerTicket, absent]
  exact if_pos h

theorem State.offerTicket_of_hold (absent : s.list.find key = none) (h : (s.classRecord cls).holdTime ≠ 0) :
    s.offerTicket key cls party g number origin =
      s.insertEntry
        { key := key, cls := cls, party := party, station := g, window := number,
          hold := (s.classRecord cls).holdTime * 60, origin := origin } := by
  rw [State.offerTicket, absent]
  exact if_neg h

theorem State.insertEntry_of_room (room : s.list.entries.length < 160) (e : ListEntry) :
    s.insertEntry e = s.setList { s.list with entries := s.list.entries ++ [e] } :=
  if_pos room

/-- A full list loses its oldest entry, with LIST EVICTION. -/
theorem State.insertEntry_of_full {oldest : ListEntry} {rest : List ListEntry} (entries : s.list.entries = oldest :: rest)
    (full : 160 ≤ s.list.entries.length) (e : ListEntry) :
    s.insertEntry e =
      (s.setList { s.list with entries := rest ++ [e] }).raise .listEviction (oldest.key.toNat / 65536)
        (oldest.key.toNat % 65536) oldest.hold := by
  have noRoom : ¬s.list.entries.length < Config.recentListSize := Nat.not_lt.2 full
  rw [State.insertEntry, if_neg noRoom, entries, ← keyHigh_eq, ← keyLow_eq]

/-! ## The list's second (R113) -/

/-- The entries with more than a second left stay, each with a second less. -/
theorem secondPasses_eq (entries : List ListEntry) :
    secondPasses entries = (entries.filter fun e => decide (1 < e.hold)).map fun e => { e with hold := e.hold - 1 } := by
  have left (e : ListEntry) : (e.hold - 1 != 0) = decide (1 < e.hold) := by
    rw [Bool.eq_iff_iff, bne_iff_ne, decide_eq_true_iff]
    omega
  simp only [secondPasses, List.filter_map, Function.comp_def, left]

theorem exec_listSecondTimerExpiry (running : s.list.secondTimer.isRunning = true) :
    exec .listSecondTimerExpiry s =
      .next (s.setList { entries := secondPasses s.list.entries, secondTimer := .running 1000 }) :=
  congrArg Host.Outcome.next (if_pos running)

end Tickets

/-- Settles O52: the presentation first, by its record; then the offer, by what the list holds, which the refusal leaves alone. -/
theorem ticketsAreListed : Obligations.TicketsAreListed := by
  refine ⟨?_, fun s running => ⟨_, exec_listSecondTimerExpiry running, secondPasses_eq _⟩⟩
  intro s g window body hh hf d key stopped heard hold fresh
  have record : d.admission.record = s.admission.record := by simp [d]
  have refused : d.peerTicket g key = stopped := by
    simp only [stopped]
    cases hr : s.admission.record with
    | none => exact State.peerTicket_of_none (record.trans hr)
    | some p => exact State.peerTicket_of_record (record.trans hr)
  have offered {t : State}
      (h : stopped.offerTicket key (natAt body 4) (natAt body 5) g window.toNat .peer = t) : heard t := by
    simp only [heard]
    rw [exec_ticketFrame hh hf, State.ticketHeard, ← h, ← refused]
    rfl
  have list : stopped.list = s.list := by simp [← refused, d]
  have minutes : (stopped.classRecord (natAt body 4)).holdTime = hold := by
    simp [← refused, d, hold, State.classRecord]
  refine ⟨fun before after e entries he first => offered ?_, fun absent => ⟨fun untimed => ?_, ?_, ?_⟩⟩
  · exact State.offerTicket_of_duplicate (list ▸ RecentList.find_of_first entries he first)
  all_goals have notListed : stopped.list.find key = none := list ▸ RecentList.find_of_absent absent
  · exact offered (State.offerTicket_of_noHold notListed (minutes.trans untimed))
  · intro timed room
    refine offered ?_
    rw [State.offerTicket_of_hold notListed (minutes ▸ timed), minutes, State.insertEntry_of_room (list ▸ room), list]
  · intro oldest rest timed entries full
    refine offered ?_
    rw [State.offerTicket_of_hold notListed (minutes ▸ timed), minutes,
      State.insertEntry_of_full (list ▸ entries) (list ▸ full), list]

end Sys2Proof.Machine
end

section
/-! SUPPORT. The recent admission list at every step (R107): an offer is listed once, an insertion into a full list makes its own room
(R110 to R112), and an entry whose time has run leaves (R113); no other command but a full reset reaches the entries. -/

namespace Sys2Proof.Machine

theorem RecentList.absent_of_find {l : RecentList} {key : TicketKey} (h : l.find key = none) :
    ∀ x ∈ l.entries, x.key ≠ key := by
  simpa [RecentList.find] using h

namespace RecentList.sound

variable {l m : RecentList} {s t : State} {e : ListEntry}

/-! ## The entries -/

theorem empty (x : Timer) : ({ entries := [], secondTimer := x } : RecentList).sound := by
  simp [RecentList.sound]

/-- Some of the entries, in their order. -/
theorem sublist (h : l.sound) (hm : m.entries.Sublist l.entries) : m.sound := by
  obtain ⟨size, keys, times⟩ := h
  exact ⟨hm.length_le.trans size, keys.sublist (hm.map _), fun e he => times e (hm.subset he)⟩

/-- The second timer does not bear on the entries. -/
theorem congr (h : l.sound) (hm : m.entries = l.entries) : m.sound := h.sublist (hm ▸ List.Sublist.refl _)

/-- An entry with a key of its own joins where there is room. -/
theorem append (h : l.sound) (room : l.entries.length < 160) (new : ∀ x ∈ l.entries, x.key ≠ e.key) (time : 1 ≤ e.hold) :
    ({ l with entries := l.entries ++ [e] } : RecentList).sound := by
  obtain ⟨-, keys, times⟩ := h
  refine ⟨?_, ?_, ?_⟩
  · rw [List.length_append]
    exact room
  · rw [List.map_append, List.nodup_append]
    exact ⟨keys, List.nodup_singleton _, by simpa using new⟩
  · simpa [or_imp, forall_and] using ⟨times, time⟩

/-- A second takes entries away and leaves the others their keys (R113). -/
theorem secondPasses (h : l.sound) (x : Timer) :
    ({ entries := secondPasses l.entries, secondTimer := x } : RecentList).sound := by
  obtain ⟨size, keys, -⟩ := h
  have stay : (l.entries.filter fun e => decide (1 < e.hold)).Sublist l.entries := List.filter_sublist
  rw [secondPasses_eq]
  refine ⟨?_, ?_, ?_⟩
  · rw [List.length_map]
    exact stay.length_le.trans size
  · rw [List.map_map]
    exact keys.sublist (stay.map ListEntry.key)
  · rintro e he
    obtain ⟨x, hx, rfl⟩ := List.mem_map.1 he
    have longer : 1 < x.hold := by simpa using (List.mem_filter.1 hx).2
    exact Nat.le_sub_of_add_le longer

/-! ## Offers (R110 to R112) -/

theorem of_eq (h : s.list.sound) (ht : t.list = s.list) : t.list.sound := ht ▸ h

theorem ite {p : Prop} [Decidable p] (hs : s.list.sound) (ht : t.list.sound) : (if p then s else t).list.sound := by
  split
  · exact hs
  · exact ht

/-- With 160 entries the oldest makes room for the new one. -/
theorem insertEntry (h : s.list.sound) (new : ∀ x ∈ s.list.entries, x.key ≠ e.key) (time : 1 ≤ e.hold) :
    (s.insertEntry e).list.sound := by
  rcases Nat.lt_or_ge s.list.entries.length 160 with room | full
  · rw [State.insertEntry_of_room room]
    exact h.append room new time
  · cases entries : s.list.entries with
    | nil => simp [entries] at full
    | cons oldest rest =>
      have left : ({ s.list with entries := rest } : RecentList).sound :=
        h.sublist (entries ▸ List.sublist_cons_self oldest rest)
      have room : rest.length < 160 := by
        have size : (oldest :: rest).length ≤ 160 := entries ▸ h.1
        exact size
      rw [State.insertEntry_of_full entries full]
      exact left.append room (fun x hx => new x (entries ▸ List.mem_cons_of_mem _ hx)) time

/-- A ticket is listed when its key is not there yet and its class has a hold time. -/
theorem offerTicket (h : s.list.sound) (key : TicketKey) (cls party : Nat) (g : Station) (window : Nat) (o : ListOrigin) :
    (s.offerTicket key cls party g window o).list.sound := by
  cases listed : s.list.find key with
  | some e =>
    rw [State.offerTicket_of_duplicate listed]
    exact h
  | none =>
    by_cases untimed : (s.classRecord cls).holdTime = 0
    · rwa [State.offerTicket_of_noHold listed untimed]
    · rw [State.offerTicket_of_hold listed untimed]
      exact h.insertEntry (RecentList.absent_of_find listed) (Nat.mul_pos (Nat.pos_of_ne_zero untimed) (by decide))

/-! ## A ticket heard and an own ticket completed (R109) -/

theorem ticketHeard (h : s.list.sound) (g : Station) (window : Byte) (body : List Byte) :
    (State.ticketHeard g window body s).list.sound :=
  offerTicket (of_eq h (by simp)) _ _ _ _ _ _

theorem ticketCompleted (h : s.list.sound) (e : TxEntry) : (s.ticketCompleted e).list.sound := by
  have admitted (p : Presentation) : (s.admitParty p.number p.party p.window).list.sound := of_eq h (by simp)
  unfold State.ticketCompleted
  dsimp only
  split <;> split
  · exact (admitted _).offerTicket _ _ _ _ _ _
  · exact h.offerTicket _ _ _ _ _ _
  · exact admitted _
  · exact h

theorem ownerCompleted (h : s.list.sound) (e : TxEntry) (f : Frame) : (s.ownerCompleted e f).list.sound := by
  unfold State.ownerCompleted
  split
  case h_3 => exact h.ticketCompleted e
  all_goals exact of_eq h (by simp)

/-! ## Good frames, requests and what follows an event -/

theorem heard (h : s.list.sound) (g : Station) (passes : Bool) {deliver : State → State}
    (hd : ∀ t, t.list.sound → (deliver t).list.sound) : (s.heard g passes deliver).list.sound := by
  have told : (((s.frameTaken g).heardAtStation g).peerHeard g).list.sound := of_eq h (by simp)
  exact .ite h (.ite (.ite (hd _ told) told) h)

/-- A good frame whose owner leaves the list alone. -/
theorem heard_of_eq (h : s.list.sound) (g : Station) (passes : Bool) {deliver : State → State}
    (hd : ∀ t, (deliver t).list = t.list) : (s.heard g passes deliver).list.sound :=
  h.heard g passes fun t ht => of_eq ht (hd t)

/-- A request whose meaning leaves the list alone. -/
theorem takeRequest (h : s.list.sound) {role : RequestRole} {body : State → State × Reply}
    (hb : (body s).1.list = s.list) : (s.takeRequest role body).list.sound :=
  State.takeRequest_keeps (Q := fun t => t.list.sound) h (fun _ _ ht => ht) fun _ => of_eq h hb

theorem serveDeferred (h : s.list.sound) : s.serveDeferred.list.sound := h

theorem viewOrphan (h : s.list.sound) : s.viewOrphan.list.sound := of_eq h (by simp)

theorem closeCommand (h : s.list.sound) : s.closeCommand.list.sound := of_eq h (by simp)

theorem settleClear (h : t.list.sound) (s : State) : (settleClear s t).list.sound := of_eq h (by simp)

end RecentList.sound

/-! ## What START, EGRESS END and the window requests leave of the list -/

@[simp] theorem State.takeOpenWindow_list (s : State) : s.takeOpenWindow.1.list = s.list := by
  unfold State.takeOpenWindow
  split <;> [skip; split] <;> simp

@[simp] theorem State.takeCloseWindow_list (s : State) : s.takeCloseWindow.1.list = s.list := by
  unfold State.takeCloseWindow
  split <;> simp

@[simp] theorem State.takeSetOnboard_list (n : Word16) (s : State) : (State.takeSetOnboard n s).1.list = s.list := by
  unfold State.takeSetOnboard
  split <;> simp

@[simp] theorem State.takeStart_list (s : State) : s.takeStart.1.list = s.list := by
  unfold State.takeStart
  dsimp only
  split <;> [split; skip] <;> simp

@[simp] theorem State.takeEgressEnd_list (s : State) : s.takeEgressEnd.1.list = s.list := by
  unfold State.takeEgressEnd
  split <;> [skip; split] <;> simp

/-! ## Every command -/

section

open RecentList.sound

variable {s t : State}

/-- A command answers a state with a sound list. -/
abbrev ListedAfter (o : Host.Outcome State Fault Refusal) : Prop := AnswersWith (fun t => t.list.sound) o

theorem State.fullReset_list_sound (s : State) (straps : Station) : (s.fullReset straps).list.sound := .empty _

theorem execHostSessionEnd_listedAfter (h : s.list.sound) (straps : Station) :
    ListedAfter (execHostSessionEnd straps s) :=
  .next (.ite (.ite (.ite (s.fullReset_list_sound straps) h) (.ite h h)) h)

theorem execOwnFrameComplete_listedAfter (h : s.list.sound) : ListedAfter (execOwnFrameComplete s) := by
  refine .next ?_
  split
  next => exact h
  next e rest _ =>
    have left : (s.setLink { s.link.hunting with
      queue := afterCompletion e rest, txFrame := none, lastSender := s.presence.number }).list.sound := h
    exact .ite (.settleClear (left.ownerCompleted e _).serveDeferred s) h

theorem execTransmitStart_listedAfter (h : s.list.sound) (slots : Nat) : ListedAfter (execTransmitStart slots s) := by
  refine .next ?_
  split
  · exact h
  · exact .ite (of_eq h (by simp)) h

theorem execReadbackFault_listedAfter (h : s.list.sound) : ListedAfter (execReadbackFault s) := by
  refine .next ?_
  split
  · exact h
  · exact .ite (of_eq h (by simp)) h

theorem execKeptDemandStart_listedAfter (h : s.list.sound) : ListedAfter (execKeptDemandStart s) := by
  refine .next ?_
  split
  · exact .ite (of_eq h (by simp)) h
  · exact h

theorem execRequestFailsMessageCheck_listedAfter (h : s.list.sound) (m : List Byte) :
    ListedAfter (execRequestFailsMessageCheck m s) := by
  refine .next ?_
  split
  · split <;> exact h
  · exact h

theorem execSilenceTimerExpiry_listedAfter (h : s.list.sound) (peer : Station) :
    ListedAfter (execSilenceTimerExpiry peer s) := by
  have lost : (s.peerSilent peer).list.sound := h
  exact .next (.ite (.settleClear (.ite lost.viewOrphan lost) s) h)

theorem execTrackerArm_listedAfter (h : s.list.sound) : ListedAfter (execTrackerArm s) := by
  have armed (x : Lane) : (s.setLane x).list.sound := h
  exact .next (.ite (.settleClear (.ite (armed _).closeCommand (armed _)) s) h)

theorem execStall_listedAfter (h : s.list.sound) : ListedAfter (execStall s) :=
  .next (.ite (.settleClear (.ite (of_eq h (by simp)) (of_eq h (by simp))) s) h)

/-- A frame of another station: TICKET alone reaches the list (R109). -/
theorem exec_frame_listedAfter (c : Instr) (hc : isFrameHeard c = true) (h : s.list.sound) : ListedAfter (exec c s) := by
  cases c with
  | ticketFrame g w b => exact .next ((h.heard g _ fun _ ht => ht.ticketHeard g w b).settleClear s)
  | statusFrame g w b => exact .next ((h.heard_of_eq g _ (by simp)).settleClear s)
  | egressFrame g w b => exact .next ((h.heard_of_eq g _ (by simp)).settleClear s)
  | egressEndFrame g w b => exact .next ((h.heard_of_eq g _ (by simp)).settleClear s)
  | offerFrame g w b => exact .next ((h.heard g _ fun _ ht => .ite (of_eq ht (by simp)) ht).settleClear s)
  | closeFrame g w b => exact .next ((h.heard g _ fun _ ht => .ite (of_eq ht (by simp)) ht).settleClear s)
  | grantFrame g w b => exact .next ((h.heard g _ fun _ ht => .ite (of_eq ht (by simp)) ht).settleClear s)
  | claimFrame g w b => exact .next (h.heard g _ fun _ ht => .ite (of_eq ht (by simp)) ht)
  | tallyFrame g w b => exact .next (h.heard g _ fun _ ht => .ite (of_eq ht (by simp)) ht)
  | unknownKindFrame g k w b => exact .next (.ite (h.heard g false fun _ => id) h)
  | _ => cases hc

/-- Every command but a byte of the host port keeps the list sound. -/
theorem exec_listedAfter_of_ne_byte (c : Instr) (hc : ∀ b, c ≠ .hostByteCompleted b) (h : s.list.sound) :
    ListedAfter (exec c s) := by
  by_cases hf : isFrameHeard c = true
  · exact exec_frame_listedAfter c hf h
  cases c with
  | unknownKindFrame | statusFrame | offerFrame | closeFrame | claimFrame | grantFrame | ticketFrame | tallyFrame
  | egressFrame | egressEndFrame => exact absurd rfl hf
  | fullReset straps => exact .next (s.fullReset_list_sound straps)
  | hostSessionEnd straps => exact execHostSessionEnd_listedAfter h straps
  | listSecondTimerExpiry => exact .next (.ite (h.secondPasses _) h)
  | ownFrameComplete => exact execOwnFrameComplete_listedAfter h
  | millisecondCountAdvance => exact .next (h.congr rfl)
  | identify | reset | configure _ | lookup _ | query _ | readEvent | peekEvent | setMask _ | release | closeWindow
  | setOnboard _ =>
    exact .next (h.takeRequest (by simp))
  | start | laneRestart | clearFault | egressEnd | present _ _ _ | cancel _ | hold | openWindow | setLaneMode _ =>
    exact .next ((h.takeRequest (by simp)).settleClear s)
  | replyReady | lineIdle | openingFlagFound | frameAbortHeard | badFrame _ | selftestEnd _ | brakeTimerExpiry
  | loiterTimerExpiry _ | hselAsserted =>
    exact .next (.ite h h)
  | selftest | endSwitchInactive _ => exact .next (.ite (.ite h h) h)
  | lineBusy | egressInputInactive => exact .next h
  | transmitStart slots => exact execTransmitStart_listedAfter h slots
  | readbackFault => exact execReadbackFault_listedAfter h
  | lostArbitration => exact .next (of_eq h (by simp))
  | silenceTimerExpiry peer => exact execSilenceTimerExpiry_listedAfter h peer
  | keptDemandStart => exact execKeptDemandStart_listedAfter h
  | listenTimerExpiry | isolationTimerExpiry | rollTimerExpiry | tallyTimerExpiry | orphanTimerExpiry
  | claimRepeatTimerExpiry | claimWaitTimerExpiry | passageWaitExpiry | clearTimerExpiry | travelTimerExpiry
  | pauseTimerExpiry | pendingCloseTaken | reDriveStart =>
    exact .next (.ite (of_eq h (by simp)) h)
  | endSwitchActive _ | egressInputActive => exact .next (.ite h (of_eq h (by simp)))
  | trackerArm => exact execTrackerArm_listedAfter h
  | stall => exact execStall_listedAfter h
  | zeroPhaseEnd offset => exact .phaseEnd _ h fun _ => .ite h (of_eq h (by simp))
  | integratePhaseEnd => exact .phaseEnd _ h fun _ => h
  | rundownCrossing r => exact .phaseEnd _ h fun _ => .ite (of_eq h (by simp)) h
  | rundownOverrange => exact .phaseEnd _ h fun _ => of_eq h (by simp)
  | hostByteCompleted b => exact absurd rfl (hc b)
  | requestFailsMessageCheck m => exact execRequestFailsMessageCheck_listedAfter h m

theorem exec_listedAfter (c : Instr) (h : s.list.sound) : ListedAfter (exec c s) := by
  cases c with
  | hostByteCompleted b =>
    exact execHostByteCompleted_answersWith (P := fun t => t.list.sound) b (fun _ => id) (fun _ _ => id)
      (fun _ c _ hr => exec_listedAfter_of_ne_byte c (requestOf_ne_byte hr)) h
  | _ => exact exec_listedAfter_of_ne_byte _ (by simp) h

end

/-- Settles O10: every command keeps the list sound, and so does an idle step. -/
theorem recentListStaysSound : Obligations.RecentListStaysSound := by
  intro s t h hstep
  exact AnswersWith.of_step (Q := fun t => t.list.sound) hstep (fun _ => h) fun c _ _ => exec_listedAfter c h

end Sys2Proof.Machine
end

section
/-! SUPPORT. LOOKUP, the requests of the event queue and ATTN (R116, R186, R192, R194, R195): what each request's meaning comes to by
what it finds. -/

namespace Sys2Proof.Machine

section ListAndEvents

variable {s : State} {key : TicketKey} {mask : Byte}

/-- A request of both roles is taken at any station (R184). -/
theorem State.takeRequest_both {body : State → State × Reply} (hc : s.canTake = true) :
    s.takeRequest .both body = (body s).1.reply (body s).2 :=
  State.takeRequest_of_role hc rfl

/-! ## LOOKUP (R116, R186) -/

/-- The first entry with the key stands behind those without it. -/
theorem findIdx_of_first {before after : List ListEntry} {e : ListEntry} (he : e.key = key)
    (first : ∀ x ∈ before, x.key ≠ key) : (before ++ e :: after).findIdx (fun x => x.key == key) = before.length := by
  have skipped : before.findIdx (fun x => x.key == key) = before.length :=
    List.findIdx_eq_length_of_false (by simpa using first)
  rw [List.findIdx_append, if_neg (skipped ▸ Nat.lt_irrefl _), List.findIdx_cons]
  simp [he]

theorem State.takeLookup_of_first {before after : List ListEntry} {e : ListEntry}
    (entries : s.list.entries = before ++ e :: after) (he : e.key = key) (first : ∀ x ∈ before, x.key ≠ key) :
    State.takeLookup key s = (s, ⟨4, e.foundPayload (before.length + 1) s.list.entries.length⟩) := by
  rw [State.takeLookup, RecentList.find_of_first entries he first]
  dsimp only
  rw [entries, findIdx_of_first he first]

theorem State.takeLookup_of_absent (absent : ∀ x ∈ s.list.entries, x.key ≠ key) :
    State.takeLookup key s = (s, ⟨5, [BitVec.ofNat 8 s.list.entries.length]⟩) := by
  rw [State.takeLookup, RecentList.find_of_absent absent]
  rfl

theorem exec_lookup (hc : s.canTake = true) :
    exec (.lookup key) s = .next ((State.takeLookup key s).1.reply (State.takeLookup key s).2) :=
  congrArg Host.Outcome.next (State.takeRequest_both hc)

/-- Origin as R186 codes it, in its byte. -/
theorem ListOrigin.byte_eq (o : ListOrigin) : byteOf o.code = if o = .own then 0 else 1 := by
  cases o <;> rfl

/-! ## READ EVENT and PEEK EVENT (R194) -/

theorem exec_readEvent (hc : s.canTake = true) :
    exec .readEvent s = .next (s.takeReadEvent.1.reply s.takeReadEvent.2) :=
  congrArg Host.Outcome.next (State.takeRequest_both hc)

theorem exec_peekEvent (hc : s.canTake = true) :
    exec .peekEvent s = .next (s.takePeekEvent.1.reply s.takePeekEvent.2) :=
  congrArg Host.Outcome.next (State.takeRequest_both hc)

theorem State.takeReadEvent_of_empty (h : s.events.records = []) : s.takeReadEvent = (s, ⟨7, []⟩) := by
  rw [State.takeReadEvent, h]
  rfl

theorem State.takePeekEvent_of_empty (h : s.events.records = []) : s.takePeekEvent = (s, ⟨7, []⟩) := by
  rw [State.takePeekEvent, h]
  rfl

theorem State.takeReadEvent_of_oldest {r : EventRecord} {rest : List EventRecord} (h : s.events.records = r :: rest) :
    s.takeReadEvent =
      (s.setEvents { s.events with records := rest }, ⟨8, r.bytes ++ [BitVec.ofNat 8 rest.length]⟩) := by
  rw [State.takeReadEvent, h]
  rfl

theorem State.takePeekEvent_of_oldest {r : EventRecord} {rest : List EventRecord} (h : s.events.records = r :: rest) :
    s.takePeekEvent = (s, ⟨8, r.bytes ++ [BitVec.ofNat 8 (rest.length + 1)]⟩) := by
  rw [State.takePeekEvent, h]
  rfl

/-! ## SET MASK and ATTN (R195) -/

theorem exec_setMask (hc : s.canTake = true) :
    exec (.setMask mask) s = .next ((State.takeSetMask mask s).1.reply (State.takeSetMask mask s).2) :=
  congrArg Host.Outcome.next (State.takeRequest_both hc)

/-- The high bit of a byte is what makes it 128 or more. -/
theorem highBit_iff {b : Byte} : b.getLsbD 7 = true ↔ 128 ≤ b.toNat := by
  have top : b.getLsbD 7 = b.msb := b.msb_eq_getLsbD_last.symm
  rw [top, BitVec.msb_eq_decide, decide_eq_true_iff]

theorem State.takeSetMask_of_highBit (h : 128 ≤ mask.toNat) : State.takeSetMask mask s = (s, ⟨2, [20, 1]⟩) :=
  if_pos (highBit_iff.2 h)

theorem State.takeSetMask_of_lowBits (h : mask.toNat < 128) :
    State.takeSetMask mask s =
      (s.setEvents { s.events with mask := mask.truncate 7 },
        ⟨1, [mask, BitVec.ofNat 8 s.events.records.length]⟩) := by
  have low : mask.extractLsb' 0 7 = mask.truncate 7 := (BitVec.setWidth_eq_extractLsb' (by decide)).symm
  have clear : ¬mask.getLsbD 7 = true := mt highBit_iff.1 (Nat.not_le.2 h)
  rw [State.takeSetMask, if_neg clear, low]
  rfl

theorem EventQueue.unmasked_iff {q : EventQueue} {r : EventRecord} :
    q.unmasked r = true ↔ q.mask.getLsbD r.kind.group = false := by
  rw [EventQueue.unmasked, Bool.not_eq_true']

theorem State.attn_iff : s.attn = true ↔ ∃ r ∈ s.events.records, s.events.mask.getLsbD r.kind.group = false := by
  simp only [State.attn, List.any_eq_true, EventQueue.unmasked_iff]

end ListAndEvents

/-- Settles O28: LOOKUP by whether the key is listed, the event requests by the queue's head, SET MASK by the high bit. -/
theorem listAndEventsAreRead : Obligations.ListAndEventsAreRead := by
  refine ⟨fun s key hc => ⟨?_, ?_⟩, ?_, ?_, fun s mask hc => ⟨fun high => ?_, fun low => ?_⟩, fun s => State.attn_iff⟩
  · intro before after e entries he first
    rw [exec_lookup hc, State.takeLookup_of_first entries he first, ListEntry.foundPayload, ListOrigin.byte_eq, he]
    rfl
  · intro absent
    rw [exec_lookup hc, State.takeLookup_of_absent absent]
  · intro s hc none
    rw [exec_readEvent hc, exec_peekEvent hc, State.takeReadEvent_of_empty none, State.takePeekEvent_of_empty none]
    exact ⟨rfl, rfl⟩
  · intro s r rest hc records bytes
    have layout : r.bytes = bytes := rfl
    rw [exec_readEvent hc, exec_peekEvent hc, State.takeReadEvent_of_oldest records, State.takePeekEvent_of_oldest records,
      layout]
    exact ⟨rfl, rfl⟩
  · rw [exec_setMask hc, State.takeSetMask_of_highBit high]
  · rw [exec_setMask hc, State.takeSetMask_of_lowBits low]

end Sys2Proof.Machine
end

section
/-! SUPPORT. The operations that requests, faults, views and egress share at the gate (R79, R83, R91, R94, R99 to R103, R121, R125):
one equation per case, and what an open command leaves of desk and lane. -/

namespace Sys2Proof.Machine

/-! ## What an open command leaves alone (R122, R163) -/

/-- `t` keeps the desk of `s`, and all of its lane but the state and the record of a fault. -/
@[simp] abbrev KeepsPassage (s t : State) : Prop :=
  t.link = s.link ∧ t.view = s.view ∧ t.account = s.account ∧ t.admission = s.admission ∧
    t.lane.holdPending = s.lane.holdPending ∧ t.lane.settleMark = s.lane.settleMark ∧
    t.lane.remaining = s.lane.remaining ∧ t.lane.tracker = s.lane.tracker ∧ t.lane.paid = s.lane.paid ∧
    t.lane.unpaid = s.lane.unpaid ∧ t.lane.excess = s.lane.excess ∧
    t.lane.egressPassages = s.lane.egressPassages ∧ t.lane.mode = s.lane.mode ∧
    t.lane.passageWait = s.lane.passageWait ∧ t.lane.clearTimer = s.lane.clearTimer ∧
    t.lane.loiterA = s.lane.loiterA ∧ t.lane.loiterB = s.lane.loiterB

@[simp] theorem State.reportOpen_keepsPassage (s : State) : KeepsPassage s s.reportOpen := by
  unfold State.reportOpen
  split <;> [skip; split] <;> simp [State.recoveryComplete]

@[simp] theorem State.reachOpen_keepsPassage (s : State) : KeepsPassage s (s.reachEnd .openEnd) := by
  simp [State.reachEnd, State.reportEnd]

@[simp] theorem State.commandTaken_keepsPassage (s : State) : KeepsPassage s s.commandTaken := by
  simp [State.commandTaken]

@[simp] theorem State.beginOpen_keepsPassage (s : State) : KeepsPassage s s.beginOpen := by
  unfold State.beginOpen
  split <;> simp

@[simp] theorem State.turnOpen_keepsPassage (s : State) : KeepsPassage s s.turnOpen := by
  unfold State.turnOpen
  split <;> simp

@[simp] theorem State.egressAttempt_keepsPassage (s : State) : KeepsPassage s s.egressAttempt := by
  unfold State.egressAttempt
  split <;> simp

@[simp] theorem State.openCommand_keepsPassage (s : State) (fromEgress : Bool) :
    KeepsPassage s (s.openCommand fromEgress) := by
  unfold State.openCommand
  cases s.barrier.state
  case opening => simp [State.movementCommanded]
  case halted => cases fromEgress <;> simp
  all_goals simp

section Desk

variable {s : State}

/-! ## Modes and the return state (R79, R143, R144) -/

theorem State.flowMode_iff : s.flowMode = true ↔ s.presence.number = 0 ∧ s.lane.mode = .flow := by
  simp [State.flowMode, State.isVessel]

theorem State.alightMode_iff : s.alightMode = true ↔ s.presence.number = 0 ∧ s.lane.mode = .alight := by
  simp [State.alightMode, State.isVessel]

theorem State.inReturnState_iff (gate : s.presence.number ≠ 0) :
    s.inReturnState = true ↔ s.lane.state = .held ∨ s.lane.state = .fault ∨ s.egress.state = .egress := by
  simp [State.inReturnState, State.isGate_iff.2 gate, State.inEgress, or_assoc]

/-! ## Returns (R72, R79) -/

/-- With no view, or no credit beyond the reservation, there is nothing to return. -/
theorem State.returnFree_of_nothing
    (h : s.view.state = .none ∨ s.account.granted - s.account.returned - s.account.charged ≤ s.account.reserved) :
    s.returnFree = s :=
  if_pos (h.imp_right Nat.sub_eq_zero_of_le)

theorem State.returnFree_of_free (inView : s.view.state ≠ .none)
    (free : s.account.reserved < s.account.granted - s.account.returned - s.account.charged) :
    s.returnFree = (s.setAccount
      { s.account with
        returned := s.account.returned +
          (s.account.granted - s.account.returned - s.account.charged - s.account.reserved) }).statusTrigger :=
  if_neg fun h => h.elim inView fun none => absurd (Nat.le_of_sub_eq_zero none) (Nat.not_le.2 free)

theorem State.enterReturn_of_unclaimed (h : s.account.claim = .none) : s.enterReturn = s.returnFree := by
  rw [State.enterReturn, State.endClaim, if_pos h]

theorem State.enterReturn_of_claimed (h : s.account.claim ≠ .none) : s.enterReturn = s.dropClaim.returnFree := by
  rw [State.enterReturn, State.endClaim, if_neg h]

/-! ## Refunds (R83, R125) -/

theorem State.tallyCheck_of_vessel (vessel : s.presence.number = 0) : s.tallyCheck = s :=
  if_neg fun due => State.isGate_iff.1 due.1 vessel

/-- The finished report of a lane with no passages left (R61, R125). -/
theorem State.tallyCheck_of_finished (gate : s.presence.number ≠ 0) (finished : s.lane.remaining = 0) :
    s.tallyCheck =
      if s.view.state = .closed ∧ s.view.tallyPending = false ∧ s.lane.tracker.state = .none then
        (s.queueKind .tally).setView { s.view with tallyPending := true }
      else s := by
  simp [State.tallyCheck, State.isGate_iff.2 gate, State.laneFinished, finished]

theorem State.refund_of_zero (h : s.lane.remaining = 0) (cause : RefundCause) : s.refund cause = s :=
  if_pos h

/-- The remaining passages ended, before the account is told (R125). -/
def State.passagesEnded (s : State) : State := s.setLane { s.lane with remaining := 0, passageWait := .stopped }

@[simp] theorem State.passagesEnded_lane (s : State) :
    s.passagesEnded.lane = { s.lane with remaining := 0, passageWait := .stopped } := rfl

@[simp] theorem State.passagesEnded_frame (s : State) :
    OnlyDesk s s.passagesEnded ∧ s.passagesEnded.events = s.events ∧ s.passagesEnded.link = s.link ∧
      s.passagesEnded.view = s.view ∧ s.passagesEnded.account = s.account ∧
      s.passagesEnded.admission = s.admission := by
  simp [State.passagesEnded]

theorem State.refund_of_vessel (some : s.lane.remaining ≠ 0) (vessel : s.presence.number = 0) (cause : RefundCause) :
    s.refund cause = s.passagesEnded.raise .passageExpired s.lane.remaining cause.code := by
  have notGate : ¬s.isGate = true := fun h => State.isGate_iff.1 h vessel
  have told : s.refund cause = (s.passagesEnded.raise .passageExpired s.lane.remaining cause.code).tallyCheck := by
    rw [State.refund, if_neg some]
    dsimp only
    rw [if_neg notGate]
    rfl
  exact told.trans (State.tallyCheck_of_vessel vessel)

/-- The account of a gate told of `n` passages that were charged and not made (R83). -/
theorem State.refundAccount_eq (gate : s.presence.number ≠ 0) (n : Nat) :
    s.refundAccount n =
      if s.lane.state = .held ∨ s.lane.state = .fault ∨ s.egress.state = .egress then
        (s.setAccount { s.account with charged := s.account.charged - n }).returnFree
      else (s.setAccount { s.account with charged := s.account.charged - n }).backgroundCheck :=
  if_congr (State.inReturnState_iff (s := s.setAccount _) gate) rfl rfl

theorem State.refund_of_gate (some : s.lane.remaining ≠ 0) (gate : s.presence.number ≠ 0) (cause : RefundCause) :
    s.refund cause =
      let told := (s.passagesEnded.refundAccount s.lane.remaining).raise .passageExpired s.lane.remaining cause.code
      if s.view.state = .closed ∧ s.view.tallyPending = false ∧ s.lane.tracker.state = .none then
        (told.queueKind .tally).setView { s.view with tallyPending := true }
      else told := by
  have told : s.refund cause =
      ((s.passagesEnded.refundAccount s.lane.remaining).raise .passageExpired s.lane.remaining
        cause.code).tallyCheck := by
    rw [State.refund, if_neg some]
    dsimp only
    rw [if_pos (State.isGate_iff.2 gate)]
    rfl
  rw [told, State.tallyCheck_of_finished (by simpa using gate) (by simp)]
  simp

/-! ## Stops and the abort by egress (R99 to R101, R103) -/

/-- With its TICKET SENDING a presentation is left to end, and the first cause noted (R99). -/
theorem State.stopPresentation_of_sending {p : Presentation} (record : s.admission.record = some p)
    (awaiting : p.state = .awaitLink) (started : s.ticketStarted = true) (cause : StopCause) :
    s.stopPresentation cause =
      s.setAdmission
        { s.admission with record := some { p with stopCause := some (p.stopCause.getD cause) } } := by
  rw [State.stopPresentation, record]
  exact if_pos ⟨awaiting, started⟩

theorem State.abortPresentation_of_sending (started : s.ticketStarted = true) :
    s.abortPresentation = (s.setLink
      { s.link with
        queue := s.link.queue.filter fun e => e.kind != .ticket
        txFrame := none, hunt := .hunt, buffer := [], ones := 0 }).refuse .egress 0 := by
  rw [State.abortPresentation, if_pos started]

theorem State.abortPresentation_of_notSending (waiting : ¬s.ticketStarted = true) :
    s.abortPresentation = (s.withdraw .ticket).refuse .egress 0 := by
  rw [State.abortPresentation, if_neg waiting]

/-! ## The end of a demand with no presentation in AWAIT_PLACES (R91) -/

theorem State.endClaimWith_of_undecided (demand : s.account.claim = .demand)
    (linked : ∀ p, s.admission.record = some p → p.state = .awaitLink) (cause : ClaimCause) :
    s.endClaimWith cause = s.dropClaim := by
  have kept : s.dropClaim.admission = s.admission := by simp
  rw [State.endClaimWith, if_pos demand, State.claimReport, kept]
  split
  next => rfl
  next p record => exact if_neg (by simp [linked p record])

/-! ## Admission (R94, R121) -/

/-- The lane of an admitted party, but for its state. -/
def Lane.authorised (l : Lane) (party waitMs : Nat) : Lane :=
  { l with
    remaining := party
    passageWait := if l.tracker.state = .none then .running waitMs else .suspended waitMs }

theorem State.authorise_of_idle (idle : s.lane.state = .idle) (party : Nat) :
    s.authorise party =
      (s.setLane { s.lane.authorised party s.passageWaitMs with state := .opening }).openCommand false :=
  if_pos idle

theorem State.authorise_of_busy (busy : s.lane.state ≠ .idle) (party : Nat) :
    s.authorise party = s.setLane (s.lane.authorised party s.passageWaitMs) :=
  if_neg busy

theorem State.authorise_admission (s : State) (party : Nat) : (s.authorise party).admission = s.admission := by
  unfold State.authorise
  dsimp only
  split <;> simp

/-- An admitted party is charged, the lane takes it, and the presentation is decided (R94). -/
theorem State.admitParty_eq (s : State) (number party window : Nat) :
    s.admitParty number party window =
      ((((s.setAccount { s.account with charged := s.account.charged + party, reserved := 0 }).authorise party).raise
        .admitted number party window).setAdmission
          { s.admission with record := none, lastDecided := some number }).backgroundCheck := by
  have kept := (s.setAccount
    { s.account with charged := s.account.charged + party, reserved := 0 }).authorise_admission party
  simp only [State.admitParty, State.raise_frame, kept, State.setAccount_admission]

end Desk

/-- Settles O32: one equation per operation and case. -/
theorem refundsReturnsAndStops : Obligations.RefundsReturnsAndStops := by
  intro s held sendingTicket
  have started : s.ticketStarted = true ↔ sendingTicket := State.ticketStarted_iff
  refine ⟨State.returnFree_of_nothing, State.returnFree_of_free, State.enterReturn_of_unclaimed,
    State.enterReturn_of_claimed, ?_, ?_, ?_, ?_, ?_, ?_, fun p => rfl⟩
  · intro cause n code ended lowered told
    have coded : cause.code = code := by cases cause <;> rfl
    rw [← coded]
    refine ⟨fun none => State.refund_of_zero none cause, fun some vessel => State.refund_of_vessel some vessel cause,
      fun some gate => ?_⟩
    rw [State.refund_of_gate some gate, State.refundAccount_eq (s := s.passagesEnded) gate]
    rfl
  · intro cause reason
    have read : cause.reason = reason := by cases cause <;> rfl
    rw [← read]
    refine ⟨fun none => State.stopPresentation_of_none none cause, fun p record => ⟨fun awaiting sending => ?_,
      fun waiting => ?_⟩⟩
    · rw [State.stopPresentation_of_sending record awaiting (started.2 sending)]
      cases p.stopCause <;> rfl
    · refine State.stopPresentation_of_notSending record (waiting.imp_right fun none e he ticket => ?_) cause
      exact Bool.eq_false_of_not_eq_true fun sending => none ⟨e, he, ticket, sending⟩
  · exact fun sending => State.abortPresentation_of_sending (started.2 sending)
  · exact fun waiting => State.abortPresentation_of_notSending (mt started.1 waiting)
  · intro cause ended
    refine ⟨fun background => State.endClaimWith_of_background background cause,
      fun demand => ⟨fun linked => State.endClaimWith_of_undecided demand linked cause, fun p record waiting => ?_⟩⟩
    rw [State.endClaimWith_of_demand demand record waiting]
    refine ⟨fun enough now => ?_, fun enough later => ?_, fun short => if_neg (Nat.not_le.2 short)⟩
    · exact (if_pos enough).trans (if_pos now)
    · exact (if_pos enough).trans (if_neg later)
  · intro number party window charged lane decided
    rw [State.admitParty_eq]
    refine ⟨fun idle => ?_, fun busy => ?_⟩
    · rw [State.authorise_of_idle (s := charged) idle]
      rfl
    · rw [State.authorise_of_busy (s := charged) busy]
      rfl

end Sys2Proof.Machine
end

section
/-! SUPPORT. What the barrier driver and the converter report to the lane (R122, R135, R137, R138, R140): one equation per report and
lane state. -/

namespace Sys2Proof.Machine

section Reports

variable {s : State}

/-! ## The hold check at a lane in IDLE (R135) -/

/-- Becoming effective: HELD, the return state entered, HOLD EFFECTIVE with the places returned by then. -/
theorem State.holdCheck_of_idle (idle : s.lane.state = .idle) :
    s.holdCheck =
      if s.presence.number ≠ 0 ∧ s.admission.record = none ∧ s.lane.holdPending = true then
        let held := (s.setLane { s.lane with state := .held, holdPending := false }).enterReturn
        held.raise .holdEffective held.account.returned
      else s := by
  simp only [State.holdCheck, State.isGate_iff, idle, true_and]
  rfl

/-! ## Reached OPEN and reached CLOSED (R122, R140) -/

/-- A recovery runs at a lane in FAULT (R140). -/
abbrev State.recovering (s : State) : Prop := s.lane.state = .fault ∧ s.lane.recovery = true

theorem State.recovering.not_opening (h : s.recovering) : s.lane.state ≠ .opening := by simp [h.1]

theorem State.recovering.not_closing (h : s.recovering) : s.lane.state ≠ .closing := by simp [h.1]

theorem State.reportOpen_of_opening (h : s.lane.state = .opening) :
    s.reportOpen = s.setLane { s.lane with state := .opened } :=
  if_pos h

theorem State.reportOpen_of_recovering (h : s.recovering) (flow : s.flowMode = true) :
    s.reportOpen = s.recoveryComplete .flow :=
  (if_neg h.not_opening).trans (if_pos ⟨h.1, h.2, flow⟩)

theorem State.reportOpen_of_other (h : s.lane.state ≠ .opening) (other : ¬(s.recovering ∧ s.flowMode = true)) :
    s.reportOpen = s :=
  (if_neg h).trans (if_neg fun ⟨fault, recovery, flow⟩ => other ⟨⟨fault, recovery⟩, flow⟩)

theorem State.reportClosed_of_closing (h : s.lane.state = .closing) :
    s.reportClosed = (s.setLane { s.lane with state := .idle }).holdCheck :=
  if_pos h

theorem State.reportClosed_of_recovering (h : s.recovering) (notFlow : ¬s.flowMode = true) :
    s.reportClosed = (s.recoveryComplete .idle).holdCheck :=
  (if_neg h.not_closing).trans (if_pos ⟨h.1, h.2, by simp [notFlow]⟩)

theorem State.reportClosed_of_other (h : s.lane.state ≠ .closing) (other : ¬s.recovering ∨ s.flowMode = true) :
    s.reportClosed = s := by
  refine (if_neg h).trans (if_neg fun ⟨fault, recovery, notFlow⟩ => ?_)
  rcases other with other | flow
  · exact other ⟨fault, recovery⟩
  · simp [flow] at notFlow

/-! ## Reversed (R122, R140) -/

theorem State.reportReversed_of_closing (h : s.lane.state = .closing) :
    s.reportReversed = s.setLane { s.lane with state := .opened } :=
  if_pos h

/-- The recovery close is awaited anew, for the whole clear time if its condition holds (log entry 21). -/
theorem State.reportReversed_of_recovering (h : s.recovering) :
    s.reportReversed = s.setLane
      { s.lane with clearTimer := if s.clearCondition = true then .running 300 else .stopped } :=
  (if_neg h.not_closing).trans (if_pos h)

theorem State.reportReversed_of_other (h : s.lane.state ≠ .closing) (other : ¬s.recovering) : s.reportReversed = s :=
  (if_neg h).trans (if_neg other)

/-! ## A fault (R103, R137, R138) -/

/-- Entry into FAULT: the lane first, then at a gate the presentation and the place account, then LANE FAULT. -/
theorem State.enterFault_eq (s : State) (cause : FaultCause) :
    s.enterFault cause =
      let faulted := s.setLane { s.lane with state := .fault, faultCause := some cause, clearTimer := .stopped }
      (if s.presence.number = 0 then faulted
        else (faulted.stopPresentation .laneUnavailable).enterReturn).raise .laneFault cause.code s.lane.state.code := by
  simp only [State.enterFault, State.isGate_iff, ne_eq, ite_not]

/-- The lane states from which a fault is entered with the hold left as it is. -/
theorem State.reportFault_of_running (cause : FaultCause) (held : s.lane.state ≠ .held) (fault : s.lane.state ≠ .fault)
    (egress : s.lane.state ≠ .egress) : s.reportFault cause = s.enterFault cause := by
  unfold State.reportFault
  cases lane : s.lane.state
  case held => exact absurd lane held
  case fault => exact absurd lane fault
  case egress => exact absurd lane egress
  all_goals rfl

/-- From HELD the hold stays, pending (R138). -/
theorem State.reportFault_of_held (cause : FaultCause) (held : s.lane.state = .held) :
    s.reportFault cause = (s.setLane { s.lane with holdPending := true }).enterFault cause := by
  rw [State.reportFault, held]

/-- In FAULT a further fault ends the recovery (R138). -/
theorem State.reportFault_of_fault (cause : FaultCause) (fault : s.lane.state = .fault) :
    s.reportFault cause =
      (s.setLane { s.lane with recovery := false, clearTimer := .stopped }).raise .laneFault cause.code 5 := by
  rw [State.reportFault, fault]
  rfl

/-- In EGRESS the first cause is recorded (R138). -/
theorem State.reportFault_of_egress (cause : FaultCause) (egress : s.lane.state = .egress) :
    s.reportFault cause =
      (s.setLane { s.lane with faultCause := some (s.lane.faultCause.getD cause) }).raise .laneFault cause.code 6 := by
  rw [State.reportFault, egress]
  rfl

end Reports

/-- Settles O58: the three reports by lane state and recovery; a fault by lane state, through the one entry into FAULT. -/
theorem laneTakesReports : Obligations.LaneTakesReports := by
  intro s recovering flow recovered checked
  have inFlow : s.flowMode = true ↔ flow := State.flowMode_iff
  refine ⟨⟨State.reportOpen_of_opening, fun h hf => State.reportOpen_of_recovering h (inFlow.2 hf), fun h other =>
    State.reportOpen_of_other h (by rwa [inFlow])⟩, ⟨?_, ?_, ?_⟩, ⟨State.reportReversed_of_closing,
    State.reportReversed_of_recovering, State.reportReversed_of_other⟩, ?_⟩
  · intro h
    rw [State.reportClosed_of_closing h]
    exact State.holdCheck_of_idle (s := s.setLane _) rfl
  · intro h hf
    rw [State.reportClosed_of_recovering h (mt inFlow.1 hf)]
    exact State.holdCheck_of_idle (s := s.recoveryComplete .idle) rfl
  · exact fun h other => State.reportClosed_of_other h (other.imp_right inFlow.2)
  · intro cause code entered
    have coded : cause.code = code := by cases cause <;> rfl
    have enters {before : LaneState} (lane : s.lane.state = before) :
        s.enterFault cause = entered s.lane.holdPending before.code := by
      rw [State.enterFault_eq, coded, lane]
    have running {before : LaneState} (lane : s.lane.state = before) (held : before ≠ .held := by decide)
        (fault : before ≠ .fault := by decide) (egress : before ≠ .egress := by decide) :
        s.reportFault cause = entered s.lane.holdPending before.code := by
      subst lane
      rw [State.reportFault_of_running cause held fault egress, enters rfl]
    refine ⟨(running ·), (running ·), (running ·), (running ·), fun held => ?_, (running ·), fun fault => ?_,
      fun egress => ?_⟩
    · rw [State.reportFault_of_held cause held, State.enterFault_eq, coded, State.setLane_lane, held]
      rfl
    · rw [State.reportFault_of_fault cause fault, coded]
    · rw [State.reportFault_of_egress cause egress, coded]
      cases s.lane.faultCause <;> rfl

end Sys2Proof.Machine
end

section
/-! SUPPORT. The lane's requests HOLD, RELEASE, CLEAR FAULT and SET LANE MODE (R134 to R136, R140, R143, R156, R171): what each
request's meaning comes to by role and lane state. -/

namespace Sys2Proof.Machine

section LaneRequests

variable {s : State} {mode : Byte}

/-! ## HOLD and RELEASE (R134 to R136) -/

theorem exec_hold_of_gate (hc : s.canTake = true) (gate : s.presence.number ≠ 0) :
    exec .hold s = .next (settleClear s (s.takeHold.1.reply s.takeHold.2)) :=
  congrArg (Host.Outcome.next <| settleClear s ·) (State.takeRequest_gate hc gate)

theorem State.takeHold_of_held (held : s.lane.state = .held) : s.takeHold = (s, ⟨1, [1]⟩) :=
  if_pos held

theorem State.takeHold_of_pending (held : s.lane.state ≠ .held) (pending : s.lane.holdPending = true) :
    s.takeHold = (s, ⟨1, [0]⟩) :=
  (if_neg held).trans (if_pos pending)

/-- At a gate in IDLE with no presentation the hold becomes effective at once. -/
theorem State.takeHold_of_free (gate : s.presence.number ≠ 0) (idle : s.lane.state = .idle)
    (noHold : s.lane.holdPending = false) (free : s.admission.record = none) :
    s.takeHold = (s.holdEffective, ⟨1, [1]⟩) := by
  have due := State.holdCheck_of_due (s := s.setLane { s.lane with holdPending := true }) (State.isGate_iff.2 gate) idle
    free rfl
  rw [State.takeHold, if_neg (by simp [idle]), if_neg (by simp [noHold])]
  refine (if_pos ⟨idle, free⟩).trans ?_
  rw [due]
  rfl

theorem State.takeHold_of_busy (held : s.lane.state ≠ .held) (noHold : s.lane.holdPending = false)
    (busy : s.lane.state ≠ .idle ∨ s.admission.record ≠ none) :
    s.takeHold = (s.setLane { s.lane with holdPending := true }, ⟨1, [0]⟩) := by
  rw [State.takeHold, if_neg held, if_neg (by simp [noHold])]
  exact if_neg fun ⟨idle, free⟩ => busy.elim (· idle) (· free)

theorem exec_release_of_gate (hc : s.canTake = true) (gate : s.presence.number ≠ 0) :
    exec .release s = .next (s.takeRelease.1.reply s.takeRelease.2) :=
  congrArg Host.Outcome.next (State.takeRequest_gate hc gate)

theorem State.takeRelease_of_held (held : s.lane.state = .held) :
    s.takeRelease = (s.setLane { s.lane with state := .idle }, ⟨1, []⟩) :=
  if_pos held

theorem State.takeRelease_of_pending (held : s.lane.state ≠ .held) (pending : s.lane.holdPending = true) :
    s.takeRelease = (s.setLane { s.lane with holdPending := false }, ⟨1, []⟩) :=
  (if_neg held).trans (if_pos pending)

theorem State.takeRelease_of_noHold (held : s.lane.state ≠ .held) (noHold : s.lane.holdPending = false) :
    s.takeRelease = (s, ⟨2, [17, 0]⟩) :=
  (if_neg held).trans (if_neg (by simp [noHold]))

/-! ## CLEAR FAULT (R140, R156, R171) -/

theorem exec_clearFault (hc : s.canTake = true) :
    exec .clearFault s = .next (settleClear s (s.clearFaults.1.reply s.clearFaults.2)) :=
  congrArg (Host.Outcome.next <| settleClear s ·) (State.takeRequest_both hc)

/-- The driver with its latch cleared, before the egress unit's open command (R171). -/
def Barrier.latchCleared (b : Barrier) : Barrier :=
  if b.latch then
    if b.state = .halted then { b with latch := false, state := .unknown, output := .off, pendingClose := false }
    else { b with latch := false }
  else b

/-- The latch clears; a halted driver in egress takes the open command again (R171). -/
theorem State.clearLatch_eq (s : State) :
    s.clearLatch =
      if s.barrier.latch = true ∧ s.barrier.state = .halted ∧ s.barrier.egressMark = true then
        (s.setBarrier s.barrier.latchCleared).openCommand true
      else s.setBarrier s.barrier.latchCleared := by
  unfold State.clearLatch Barrier.latchCleared
  by_cases latch : s.barrier.latch = true
  · by_cases halted : s.barrier.state = .halted
    · simp [latch, halted]
    · simp [latch, halted]
  · simp [latch]

/-- Plates and latch clear (R156, R171). -/
def State.faultsCleared (s : State) : State := s.clearPlateFaults.setBarrier s.barrier.latchCleared

theorem State.clearFaults_of_recovering (fault : s.lane.state = .fault) (noEgress : s.barrier.egressMark = false)
    (recovery : s.lane.recovery = true) : s.clearFaults = (s.faultsCleared, ⟨1, []⟩) := by
  have cleared : s.clearPlateFaults.clearLatch = s.faultsCleared := by
    simp [State.clearLatch_eq, noEgress, State.faultsCleared]
  rw [State.clearFaults, if_pos fault, cleared]
  exact if_pos recovery

theorem State.clearFaults_of_fault (fault : s.lane.state = .fault) (noEgress : s.barrier.egressMark = false)
    (noRecovery : s.lane.recovery = false) :
    s.clearFaults =
      let begun := s.faultsCleared.setLane { s.lane with recovery := true }
      (if s.presence.number = 0 ∧ s.lane.mode = .flow ∧ s.presence.state ≠ .setup then begun.openCommand false
        else begun, ⟨1, []⟩) := by
  have cleared : s.clearPlateFaults.clearLatch = s.faultsCleared := by
    simp [State.clearLatch_eq, noEgress, State.faultsCleared]
  rw [State.clearFaults, if_pos fault, cleared]
  refine (if_neg (by simp [noRecovery])).trans ?_
  simp only [State.flowMode_iff, and_assoc]
  rfl

theorem State.clearFaults_of_egress (egress : s.lane.state = .egress) (recorded : s.lane.faultCause ≠ none) :
    s.clearFaults =
      let begun := s.faultsCleared.setLane { s.lane with faultCause := none }
      ((if s.barrier.latch = true ∧ s.barrier.state = .halted ∧ s.barrier.egressMark = true then begun.openCommand true
        else begun).raise .faultCleared, ⟨1, []⟩) := by
  rw [State.clearFaults, if_neg (by simp [egress]), if_pos ⟨egress, recorded⟩]
  dsimp only
  rw [State.clearLatch_eq]
  rfl

theorem State.clearFaults_of_none (fault : s.lane.state ≠ .fault)
    (none : s.lane.state ≠ .egress ∨ s.lane.faultCause = none) : s.clearFaults = (s, ⟨2, [17, 0]⟩) :=
  (if_neg fault).trans (if_neg fun ⟨egress, recorded⟩ => none.elim (· egress) recorded)

/-! ## SET LANE MODE (R143) -/

theorem exec_setLaneMode_of_gate (hc : s.canTake = true) (gate : s.presence.number ≠ 0) :
    exec (.setLaneMode mode) s = .next (settleClear s (s.reply ⟨2, [16, 0]⟩)) :=
  congrArg (Host.Outcome.next <| settleClear s ·) (State.takeRequest_vessel_of_gate hc gate)

theorem exec_setLaneMode_of_vessel (hc : s.canTake = true) (vessel : s.presence.number = 0) :
    exec (.setLaneMode mode) s = .next (settleClear s
      ((State.takeLaneMode mode s).1.reply (State.takeLaneMode mode s).2)) :=
  congrArg (Host.Outcome.next <| settleClear s ·) (State.takeRequest_vessel hc vessel)

theorem State.takeLaneMode_of_window (window : s.vessel.state ≠ .none) :
    State.takeLaneMode mode s = (s, ⟨2, [17, 0]⟩) :=
  if_pos window

theorem State.takeLaneMode_of_noMode (noWindow : s.vessel.state = .none) (noMode : 1 < mode.toNat) :
    State.takeLaneMode mode s = (s, ⟨2, [20, 1]⟩) :=
  (if_neg (not_not_intro noWindow)).trans (if_pos noMode)

theorem State.takeLaneMode_flow (noWindow : s.vessel.state = .none) :
    State.takeLaneMode 0 s = (s.takeFlow, ⟨1, []⟩) :=
  if_neg (not_not_intro noWindow)

theorem State.takeLaneMode_alight (noWindow : s.vessel.state = .none) :
    State.takeLaneMode 1 s = (s.takeAlight, ⟨1, []⟩) :=
  if_neg (not_not_intro noWindow)

theorem State.takeFlow_of_flow (flow : s.lane.mode = .flow) : s.takeFlow = s :=
  if_pos flow

theorem State.takeFlow_of_setup (alight : s.lane.mode = .alight) (setup : s.presence.state = .setup) :
    s.takeFlow = s.setLane { s.lane with mode := .flow } := by
  rw [State.takeFlow, if_neg (by simp [alight]), if_pos setup]

/-- A tracker unarmed: NONE, with both marks clear (R127). -/
def Tracker.disarmed (t : Tracker) : Tracker := { t with state := .none, armed := false, multiple := false, exited := false }

/-- The vessel lane as FLOW is taken, but for its state: the tracker unarmed and its timers stopped (R143). -/
def Lane.calmed (l : Lane) : Lane :=
  { l with
    mode := .flow, tracker := l.tracker.disarmed, passageWait := l.passageWait.resume, clearTimer := .stopped,
    loiterA := .stopped, loiterB := .stopped }

/-- The vessel station has no TALLY to give, so unarming changes the lane alone. -/
theorem State.unarmTracker_of_vessel (vessel : s.presence.number = 0) :
    s.unarmTracker = s.setLane
      { s.lane with tracker := s.lane.tracker.disarmed, passageWait := s.lane.passageWait.resume } :=
  State.tallyCheck_of_vessel vessel

theorem State.takeFlow_of_alight (vessel : s.presence.number = 0) (alight : s.lane.mode = .alight)
    (started : s.presence.state ≠ .setup) :
    s.takeFlow =
      if s.lane.state = .idle ∨ s.lane.state = .opening ∨ s.lane.state = .opened ∨ s.lane.state = .closing then
        (s.setLane { s.lane.calmed with state := .flow }).openCommand false
      else if s.lane.state = .fault ∧ s.lane.recovery = true then (s.setLane s.lane.calmed).openCommand false
      else s.setLane s.lane.calmed := by
  have calm : s.unarmTracker.setLane
      { s.unarmTracker.lane with mode := .flow, clearTimer := .stopped, loiterA := .stopped, loiterB := .stopped } =
        s.setLane s.lane.calmed := by
    rw [State.unarmTracker_of_vessel vessel]
    rfl
  have lane : (s.setLane s.lane.calmed).lane.state = s.lane.state := rfl
  rw [State.takeFlow, if_neg (by simp [alight]), if_neg started]
  dsimp only at calm ⊢
  rw [calm, lane]
  cases s.lane.state
  case fault => simp only [reduceCtorEq, or_self, if_false, true_and]; rfl
  all_goals rfl

theorem State.takeAlight_of_alight (alight : s.lane.mode = .alight) : s.takeAlight = s :=
  if_pos alight

theorem State.takeAlight_of_flow (flow : s.lane.mode = .flow) :
    s.takeAlight = s.setLane
      { s.lane with
        mode := .alight
        state := if s.presence.state ≠ .setup ∧ s.lane.state = .flow then .opened else s.lane.state } :=
  if_neg (by simp [flow])

end LaneRequests

/-- Settles O33: HOLD by role, lane state and pending hold; what becoming effective does is the hold's own equation. -/
theorem holdRequest : Obligations.HoldRequest := by
  intro s hc
  refine ⟨fun vessel => ?_, fun gate => ⟨fun held => ?_, fun held pending => ?_, fun idle noHold free => ?_,
    fun held noHold busy => ?_⟩⟩
  · exact congrArg (Host.Outcome.next <| settleClear s ·) (State.takeRequest_gate_of_vessel hc vessel)
  · rw [exec_hold_of_gate hc gate, State.takeHold_of_held held]
  · rw [exec_hold_of_gate hc gate, State.takeHold_of_pending held pending]
  · intro held ended back
    have ends : held.endClaim = ended := rfl
    have credits : ended.freeCredits = s.freeCredits ∧ ended.account.returned = s.account.returned ∧
        ended.view = s.view := by
      unfold ended
      split <;> exact ⟨rfl, rfl, rfl⟩
    obtain ⟨free', returned, view⟩ := credits
    have returns : held.enterReturn = back := by
      rw [State.enterReturn, ends, State.returnFree, free', returned, view]
    rw [exec_hold_of_gate hc gate, State.takeHold_of_free gate idle noHold free, State.holdEffective, ← returns]
  · rw [exec_hold_of_gate hc gate, State.takeHold_of_busy held noHold busy]

/-- Settles O34: RELEASE by role, lane state and pending hold. -/
theorem releaseRequest : Obligations.ReleaseRequest := by
  intro s hc
  refine ⟨fun vessel => ?_, fun gate => ⟨fun held => ?_, fun held pending => ?_, fun held noHold => ?_⟩⟩
  · exact congrArg Host.Outcome.next (State.takeRequest_gate_of_vessel hc vessel)
  · rw [exec_release_of_gate hc gate, State.takeRelease_of_held held]
  · rw [exec_release_of_gate hc gate, State.takeRelease_of_pending held pending]
  · rw [exec_release_of_gate hc gate, State.takeRelease_of_noHold held noHold]

/-- Settles O35: CLEAR FAULT by lane state, through plates and latch cleared. -/
theorem clearFaultRequest : Obligations.ClearFaultRequest := by
  intro s hc clean barrier cleared
  have clears : s.faultsCleared = cleared := rfl
  rw [exec_clearFault hc]
  refine ⟨fun fault noEgress => ⟨fun recovery => ?_, fun noRecovery => ?_⟩, fun egress recorded => ?_,
    fun fault none => ?_⟩
  · rw [State.clearFaults_of_recovering fault noEgress recovery, clears]
  · rw [State.clearFaults_of_fault fault noEgress noRecovery, clears]
  · rw [State.clearFaults_of_egress egress recorded, clears]
  · rw [State.clearFaults_of_none fault none]

/-- Settles O41: SET LANE MODE by R143's rows; FLOW taken by the lane state. -/
theorem setLaneModeRequest : Obligations.SetLaneModeRequest := by
  intro s mode hc
  refine ⟨exec_setLaneMode_of_gate hc, fun vessel => ⟨fun window => ?_, fun noWindow noMode => ?_, fun noWindow =>
    ⟨fun flow => ?_, fun alight => ?_, fun alight setup => ?_, fun alight started => ?_, fun flow => ?_⟩⟩⟩
  · rw [exec_setLaneMode_of_vessel hc vessel, State.takeLaneMode_of_window window]
  · rw [exec_setLaneMode_of_vessel hc vessel, State.takeLaneMode_of_noMode noWindow noMode]
  · rw [exec_setLaneMode_of_vessel hc vessel, State.takeLaneMode_flow noWindow, State.takeFlow_of_flow flow]
  · rw [exec_setLaneMode_of_vessel hc vessel, State.takeLaneMode_alight noWindow, State.takeAlight_of_alight alight]
  · rw [exec_setLaneMode_of_vessel hc vessel, State.takeLaneMode_flow noWindow, State.takeFlow_of_setup alight setup]
  · rw [exec_setLaneMode_of_vessel hc vessel, State.takeLaneMode_flow noWindow,
      State.takeFlow_of_alight vessel alight started]
    rfl
  · rw [exec_setLaneMode_of_vessel hc vessel, State.takeLaneMode_alight noWindow, State.takeAlight_of_flow flow]

end Sys2Proof.Machine
end

section
/-! SUPPORT. LANE RESTART (R141, R158, R175): the restart in its stages, from the refund to the hold check, and what each stage leaves
of lane, account and view. -/

namespace Sys2Proof.Machine

section LaneRestart

variable {s : State}

/-! ## What the shared operations leave of account, view and lane -/

@[simp] theorem State.backgroundCheck_account (s : State) :
    s.backgroundCheck.account.granted = s.account.granted ∧ s.backgroundCheck.account.returned = s.account.returned ∧
      s.backgroundCheck.account.charged = s.account.charged ∧
      s.backgroundCheck.account.reserved = s.account.reserved := by
  unfold State.backgroundCheck State.startClaim State.queueKind
  split <;> simp

@[simp] theorem State.refundAccount_account (s : State) (n : Nat) :
    (s.refundAccount n).account.granted = s.account.granted ∧
      (s.refundAccount n).account.charged = s.account.charged - n := by
  unfold State.refundAccount
  dsimp only
  split <;> simp

@[simp] theorem State.tallyCheck_leaves (s : State) :
    s.tallyCheck.lane = s.lane ∧ s.tallyCheck.account = s.account ∧ s.tallyCheck.admission = s.admission ∧
      s.tallyCheck.events = s.events ∧ s.tallyCheck.view.state = s.view.state ∧
      s.tallyCheck.view.number = s.view.number := by
  unfold State.tallyCheck
  split <;> simp

/-- The finished report of a lane with no passages left and its tracker in NONE. -/
theorem State.tallyCheck_of_restarted (remaining : s.lane.remaining = 0) (tracker : s.lane.tracker.state = .none) :
    s.tallyCheck =
      if s.presence.number ≠ 0 ∧ s.view.state = .closed ∧ s.view.tallyPending = false then
        (s.queueKind .tally).setView { s.view with tallyPending := true }
      else s := by
  simp only [State.tallyCheck, State.isGate_iff, State.laneFinished, remaining, tracker, Bool.not_eq_true',
    beq_self_eq_true, Bool.and_self, and_true]

theorem State.holdCheck_eq (s : State) :
    s.holdCheck =
      if s.presence.number ≠ 0 ∧ s.lane.state = .idle ∧ s.admission.record = none ∧ s.lane.holdPending = true then
        let held := (s.setLane { s.lane with state := .held, holdPending := false }).enterReturn
        held.raise .holdEffective held.account.returned
      else s := by
  simp only [State.holdCheck, State.isGate_iff]
  rfl

/-- A pending hold of a lane in IDLE may have become effective, at a gate (R135). -/
def State.MayHold (s : State) (m : Lane) : Prop :=
  m = s.lane ∨ s.presence.number ≠ 0 ∧ s.lane.state = .idle ∧ m = { s.lane with state := .held, holdPending := false }

theorem State.holdCheck_mayHold (s : State) : s.MayHold s.holdCheck.lane := by
  rw [State.holdCheck_eq]
  split
  next due =>
    obtain ⟨gate, idle, -⟩ := due
    exact .inr ⟨gate, idle, by simp⟩
  next => exact .inl rfl

theorem State.refuse_mayHold (s : State) (reason : Reason) (detail : Nat) : s.MayHold (s.refuse reason detail).lane := by
  cases record : s.admission.record with
  | none => exact .inl (by simp [State.refuse, record])
  | some p =>
    rw [State.refuse_eq record]
    have held := (s.refused p reason detail).holdCheck_mayHold
    simpa [State.MayHold, State.refused] using held

theorem State.stopPresentation_mayHold (s : State) (cause : StopCause) : s.MayHold (s.stopPresentation cause).lane := by
  unfold State.stopPresentation
  split
  · exact .inl rfl
  · split
    · exact .inl rfl
    · exact s.refuse_mayHold _ _

@[simp] theorem State.stopPresentation_leaves (s : State) (cause : StopCause) :
    (s.stopPresentation cause).view = s.view ∧
      (s.stopPresentation cause).account.granted = s.account.granted := by
  cases record : s.admission.record with
  | none => simp [State.stopPresentation_of_none record]
  | some p =>
    obtain ⟨-, -, granted, -⟩ := State.refuse_leaves record cause.reason 0
    simp only [State.stopPresentation, record]
    split <;> simp [granted]

theorem State.refund_lane (s : State) (cause : RefundCause) :
    (s.refund cause).lane =
      { s.lane with remaining := 0, passageWait := if s.lane.remaining = 0 then s.lane.passageWait else .stopped } := by
  unfold State.refund
  split
  next none => simp [← none]
  next =>
    dsimp only
    split <;> simp

@[simp] theorem State.refund_rest (s : State) (cause : RefundCause) :
    (s.refund cause).admission = s.admission ∧ (s.refund cause).view.state = s.view.state ∧
      (s.refund cause).view.number = s.view.number ∧
      (s.refund cause).account.granted = s.account.granted := by
  unfold State.refund
  split
  · simp
  · dsimp only
    split <;> simp

/-! ## The stages of a restart (R141) -/

/-- Steps 1 to 3: the presentation stopped at a gate (R102), and the remaining passages refunded (R125). -/
def State.restartRefunded (s : State) : State :=
  (if s.presence.number = 0 then s else s.stopPresentation .laneRestart).refund .restart

/-- The lane state that a restart comes to (R141, step 7). -/
def State.restartedState (s : State) : LaneState :=
  if s.presence.number = 0 ∧ s.lane.mode = .flow then .flow
  else if s.presence.number ≠ 0 ∧ s.restartRefunded.lane.state = .held then .held
  else .idle

/-- The lane, the plates and the barrier back at their beginnings (R158, R175). -/
def State.restartBegun (s : State) : State :=
  let lane := s.restartRefunded.lane
  ((s.restartRefunded.setLane
    { lane with
      state := s.restartedState, tracker := lane.tracker.disarmed, passageWait := .stopped, clearTimer := .stopped,
      loiterA := .stopped, loiterB := .stopped, faultCause := none, recovery := false,
      settleMark := true }).setConverter s.converter.restarted).setBarrier s.barrier.restarted

/-- FAULT CLEARED out of FAULT, and the open command of a FLOW lane. -/
def State.restartOpened (s : State) : State :=
  let told := if s.lane.state = .fault then s.restartBegun.raise .faultCleared else s.restartBegun
  if s.presence.number = 0 ∧ s.lane.mode = .flow then told.openCommand false else told

/-- The whole restart, with the finished report and the hold check. -/
def State.restarted (s : State) : State := s.restartOpened.tallyCheck.holdCheck

/-! ## What the stages leave, and the states they come to -/

theorem State.MayHold.leaves {m : Lane} (h : s.MayHold m) :
    m.remaining = s.lane.remaining ∧ m.tracker = s.lane.tracker ∧ m.paid = s.lane.paid ∧ m.unpaid = s.lane.unpaid ∧
      m.excess = s.lane.excess ∧ m.egressPassages = s.lane.egressPassages ∧ m.mode = s.lane.mode := by
  rcases h with rfl | ⟨-, -, rfl⟩ <;> simp

/-- A lane other than HELD has not taken its hold. -/
theorem State.MayHold.holdPending {m : Lane} (h : s.MayHold m) (notHeld : m.state ≠ .held) :
    m.holdPending = s.lane.holdPending := by
  rcases h with rfl | ⟨-, -, rfl⟩
  · rfl
  · exact absurd rfl notHeld

@[simp] theorem State.restartRefunded_frame (s : State) :
    OnlyDesk s s.restartRefunded ∧ s.restartRefunded.view.state = s.view.state ∧
      s.restartRefunded.view.number = s.view.number ∧
      s.restartRefunded.account.granted = s.account.granted := by
  unfold State.restartRefunded
  split <;> simp

/-- The refund's lane: no passages remain, and the stopped presentation may have let a hold take effect. -/
theorem State.restartRefunded_lane (s : State) :
    ∃ m w, s.MayHold m ∧ s.restartRefunded.lane = { m with remaining := 0, passageWait := w } := by
  unfold State.restartRefunded
  split
  · exact ⟨_, _, .inl rfl, State.refund_lane ..⟩
  · exact ⟨_, _, s.stopPresentation_mayHold .laneRestart, State.refund_lane ..⟩

theorem State.restartRefunded_of_free (free : s.admission.record = none) : s.restartRefunded = s.refund .restart := by
  rw [State.restartRefunded, State.stopPresentation_of_none free, ite_self]

/-- With no presentation to stop, the account and the events show the refund alone. -/
theorem State.restartRefunded_refund (free : s.admission.record = none) (some : s.lane.remaining ≠ 0)
    (gate : s.presence.number ≠ 0) :
    s.restartRefunded.account.charged = s.account.charged - s.lane.remaining ∧
      s.restartRefunded.events = s.events.raise .passageExpired (word16 s.lane.remaining) 1 0 := by
  rw [State.restartRefunded_of_free free, State.refund_of_gate some gate]
  dsimp only
  split <;> simp [State.raise] <;> rfl

@[simp] theorem State.restartOpened_keeps (s : State) :
    KeepsPassage s.restartBegun s.restartOpened ∧ OnlyGateway s.restartBegun s.restartOpened := by
  unfold State.restartOpened
  dsimp only
  split <;> split <;> simp

@[simp] theorem State.restartBegun_leaves (s : State) :
    OnlyFloor s s.restartBegun ∧ s.restartBegun.vessel = s.vessel ∧ s.restartBegun.view.state = s.view.state ∧
      s.restartBegun.view.number = s.view.number ∧ s.restartBegun.account.granted = s.account.granted := by
  simp [State.restartBegun]

theorem State.restartBegun_lane (s : State) :
    s.restartBegun.lane.remaining = 0 ∧ s.restartBegun.lane.tracker.state = .none ∧
      s.restartBegun.lane.paid = s.lane.paid ∧ s.restartBegun.lane.unpaid = s.lane.unpaid ∧
      s.restartBegun.lane.excess = s.lane.excess ∧ s.restartBegun.lane.egressPassages = s.lane.egressPassages ∧
      s.restartBegun.lane.mode = s.lane.mode := by
  obtain ⟨m, w, held, lane⟩ := s.restartRefunded_lane
  obtain ⟨-, -, kept⟩ := held.leaves
  simp only [State.restartBegun, State.setBarrier_lane, State.setConverter_lane, State.setLane_lane, lane,
    Tracker.disarmed, true_and]
  exact kept

/-- At a gate the lane is HELD or IDLE after the restart's own steps (R141, step 7). -/
theorem State.restartOpened_state_of_gate (gate : s.presence.number ≠ 0) :
    s.restartOpened.lane.state = if s.restartRefunded.lane.state = .held then .held else .idle := by
  have notFlow : ¬(s.presence.number = 0 ∧ s.lane.mode = .flow) := fun h => gate h.1
  have restart : s.restartedState = if s.restartRefunded.lane.state = .held then .held else .idle := by
    simp only [State.restartedState, gate, ne_eq, not_false_eq_true, false_and, true_and, if_false]
  rw [State.restartOpened, if_neg notFlow, ← restart]
  split <;> simp [State.restartBegun]

/-- A FLOW lane is in FLOW, and its barrier opens or has opened. -/
theorem State.restartOpened_of_flow (flow : s.presence.number = 0 ∧ s.lane.mode = .flow) :
    s.restartOpened.lane.state = .flow ∧
      s.restartOpened.barrier.state = if s.barrier.openSwitch then .opened else .opening := by
  have opens (t : State) (lane : t.lane.state = .flow) (barrier : t.barrier = s.barrier.restarted) :
      (t.openCommand false).lane.state = .flow ∧
        (t.openCommand false).barrier.state = if s.barrier.openSwitch then .opened else .opening := by
    have unknown : t.barrier.state = .unknown := by rw [barrier]; rfl
    have switch : t.commandTaken.barrier.openSwitch = s.barrier.openSwitch := by
      simp [State.commandTaken, barrier, Barrier.restarted]
    have begun : t.openCommand false = t.commandTaken.beginOpen := by rw [State.openCommand, unknown]
    rw [begun, State.beginOpen, switch]
    split
    · have stays : (t.commandTaken.setBarrier (t.commandTaken.barrier.atEnd .openEnd)).reportOpen =
          t.commandTaken.setBarrier (t.commandTaken.barrier.atEnd .openEnd) :=
        State.reportOpen_of_other (by simp [State.commandTaken, lane]) (by simp [State.commandTaken, lane])
      rw [State.reachEnd, State.reportEnd, stays]
      exact ⟨lane, rfl⟩
    · exact ⟨lane, rfl⟩
  have state : s.restartedState = .flow := if_pos flow
  rw [State.restartOpened, if_pos flow]
  refine opens _ ?_ ?_
  · split <;> simp [State.restartBegun, state]
  · split <;> simp [State.restartBegun]

theorem State.restartedLane_mayHold (s : State) : s.restartOpened.MayHold s.restarted.lane := by
  have held := s.restartOpened.tallyCheck.holdCheck_mayHold
  simpa only [State.MayHold, State.restarted, State.tallyCheck_frame, State.tallyCheck_leaves] using held

/-! ## The request -/

theorem State.restartLane_of_refused (h : s.presence.state = .setup ∨ s.lane.state = .egress) :
    s.restartLane = (s, ⟨2, [17, 0]⟩) :=
  if_pos h

theorem State.restartLane_of_taken (started : s.presence.state ≠ .setup) (lane : s.lane.state ≠ .egress) :
    s.restartLane = (s.restarted, ⟨1, []⟩) := by
  have stopped : (if s.isGate = true then s.stopPresentation .laneRestart else s) =
      if s.presence.number = 0 then s else s.stopPresentation .laneRestart := by
    simp only [State.isGate_iff, ne_eq, ite_not]
  have number : s.restartRefunded.presence.number = s.presence.number := by simp
  have mode : s.restartRefunded.lane.mode = s.lane.mode := by
    obtain ⟨m, w, held, lane⟩ := s.restartRefunded_lane
    rw [lane]
    exact held.leaves.2.2.2.2.2.2
  have state : s.restartRefunded.restartState = s.restartedState := by
    simp only [State.restartState, State.restartedState, State.flowMode_iff, State.isGate_iff, number, mode]
  have converter : s.restartRefunded.converter = s.converter := by simp
  have barrier : s.restartRefunded.barrier = s.barrier := by simp
  rw [State.restartLane, if_neg (not_or.2 ⟨started, lane⟩), stopped]
  simp only [State.restarted, State.restartOpened, State.flowMode_iff]
  rw [State.restartBegun, ← state, ← converter, ← barrier]
  rfl

theorem exec_laneRestart (hc : s.canTake = true) :
    exec .laneRestart s = .next (settleClear s (s.restartLane.1.reply s.restartLane.2)) :=
  congrArg (Host.Outcome.next <| settleClear s ·) (State.takeRequest_both hc)

/-! ## The hold (R135) -/

/-- The refund leaves state and hold, unless the stopped presentation let the hold take effect. -/
theorem State.restartRefunded_hold (s : State) :
    s.restartRefunded.lane.state = s.lane.state ∧ s.restartRefunded.lane.holdPending = s.lane.holdPending ∨
      s.presence.number ≠ 0 ∧ s.lane.state = .idle ∧ s.restartRefunded.lane.state = .held := by
  obtain ⟨m, w, held, lane⟩ := s.restartRefunded_lane
  rw [lane]
  rcases held with rfl | ⟨gate, idle, rfl⟩
  · exact .inl ⟨rfl, rfl⟩
  · exact .inr ⟨gate, idle, rfl⟩

theorem State.restartOpened_holdPending (s : State) :
    s.restartOpened.lane.holdPending = s.restartRefunded.lane.holdPending := by
  simp [State.restartBegun]

/-- A lane that is HELD once its presentation is stopped stays HELD through the restart. -/
theorem State.restartOpened_held (gate : s.presence.number ≠ 0) (held : s.restartRefunded.lane.state = .held) :
    s.restartOpened.lane.state = .held := by
  rw [State.restartOpened_state_of_gate gate, if_pos held]

/-- Only a hold that becomes effective is taken from the lane. -/
theorem State.restarted_holdPending (h : s.restarted.lane.state ≠ .held ∨ s.lane.state = .held) :
    s.restarted.lane.holdPending = s.lane.holdPending := by
  rcases s.restartedLane_mayHold with same | ⟨gate, idle, effective⟩
  · rw [same, State.restartOpened_holdPending]
    rcases s.restartRefunded_hold with ⟨-, kept⟩ | ⟨gate, idle, held⟩
    · exact kept
    · have nowHeld : s.restarted.lane.state = .held := by rw [same, State.restartOpened_held gate held]
      simp [nowHeld, idle] at h
  · have nowHeld : s.restarted.lane.state = .held := by rw [effective]
    have wasHeld : s.lane.state = .held := by simpa [nowHeld] using h
    have held : s.restartRefunded.lane.state = .held := by
      rcases s.restartRefunded_hold with ⟨kept, -⟩ | ⟨-, -, held⟩
      · rw [kept, wasHeld]
      · exact held
    have stays := State.restartOpened_held (by simpa using gate) held
    simp [stays] at idle

/-- At a gate with no presentation a pending hold becomes effective. -/
theorem State.restarted_of_hold (free : s.admission.record = none) (pending : s.lane.holdPending = true)
    (gate : s.presence.number ≠ 0) (notHeld : s.lane.state ≠ .held) :
    s.restarted.lane.state = .held ∧ s.restarted.lane.holdPending = false := by
  have refunded := State.restartRefunded_of_free free
  have notHeld : s.restartRefunded.lane.state ≠ .held := by rwa [refunded, State.refund_lane]
  have idle : s.restartOpened.lane.state = .idle := by rw [State.restartOpened_state_of_gate gate, if_neg notHeld]
  have holds : s.restartOpened.lane.holdPending = true := by
    rw [State.restartOpened_holdPending, refunded, State.refund_lane, pending]
  have noRecord : s.restartOpened.admission.record = none := by
    simp [State.restartBegun, refunded, free]
  have due : s.restartOpened.tallyCheck.presence.number ≠ 0 ∧ s.restartOpened.tallyCheck.lane.state = .idle ∧
      s.restartOpened.tallyCheck.admission.record = none ∧ s.restartOpened.tallyCheck.lane.holdPending = true := by
    exact ⟨by simpa using gate, by simpa using idle, by simpa using noRecord, by simpa using holds⟩
  rw [State.restarted, State.holdCheck_eq, if_pos due]
  simp

/-! ## The rest -/

theorem State.restarted_lane (s : State) :
    s.restarted.lane.remaining = 0 ∧ s.restarted.lane.paid = s.lane.paid ∧ s.restarted.lane.unpaid = s.lane.unpaid ∧
      s.restarted.lane.excess = s.lane.excess ∧ s.restarted.lane.egressPassages = s.lane.egressPassages ∧
      s.restarted.lane.mode = s.lane.mode := by
  obtain ⟨remaining, -, paid, unpaid, excess, passages, mode⟩ := s.restartedLane_mayHold.leaves
  obtain ⟨remaining', -, paid', unpaid', excess', passages', mode'⟩ := s.restartBegun_lane
  simp [remaining, paid, unpaid, excess, passages, mode, remaining', paid', unpaid', excess', passages', mode']

@[simp] theorem State.restarted_leaves (s : State) :
    OnlyFloor s s.restarted ∧ s.restarted.vessel = s.vessel ∧ s.restarted.view.state = s.view.state ∧
      s.restarted.view.number = s.view.number ∧ s.restarted.account.granted = s.account.granted := by
  simp [State.restarted]

/-- The vessel station has neither a TALLY nor a hold to look for. -/
theorem State.restarted_of_vessel (vessel : s.presence.number = 0) : s.restarted = s.restartOpened := by
  have stays : s.restartOpened.tallyCheck = s.restartOpened := State.tallyCheck_of_vessel (by simpa using vessel)
  rw [State.restarted, stays, State.holdCheck_eq]
  exact if_neg fun due => due.1 (by simpa using vessel)

end LaneRestart

/-- Settles O36: the stages of the statement are those of `State.restarted`; what the restart leaves and comes to is said of these. -/
theorem laneRestartRequest : Obligations.LaneRestartRequest := by
  intro s hc
  refine ⟨fun refused => ?_, fun started lane => ?_⟩
  · rw [exec_laneRestart hc, State.restartLane_of_refused refused]
  intro flow refunded fresh begun told opened tallied after
  obtain ⟨remaining, paid, unpaid, excess, passages, mode⟩ := s.restarted_lane
  have tallies : s.restartOpened.tallyCheck = tallied := by
    obtain ⟨none, tracker, -⟩ := s.restartBegun_lane
    have number : s.restartOpened.presence.number = s.presence.number := by simp
    rw [State.tallyCheck_of_restarted (by simpa using none) (by simpa using tracker), number]
    rfl
  have restarts : s.restarted = after := by
    rw [State.restarted, tallies, State.holdCheck_eq]
    have number : tallied.presence.number = s.presence.number := by simp [← tallies]
    rw [number]
  rw [← restarts, exec_laneRestart hc, State.restartLane_of_taken started lane]
  refine ⟨rfl, fun some gate free => State.restartRefunded_refund free some gate, fun flows => ?_,
    State.restarted_of_hold, State.restarted_holdPending, remaining, paid, unpaid, excess, passages, mode, ?_⟩
  · rw [State.restarted_of_vessel flows.1]
    exact State.restartOpened_of_flow flows
  · simp

end Sys2Proof.Machine
end

section
/-! SUPPORT. The lane's timers and the arming of the tracker (R123 to R127, R133, R140): the command of each running timer, and the clear
timer's condition read out. -/

namespace Sys2Proof.Machine

section LaneTimers

variable {s t : State}

theorem exec_passageWaitExpiry (running : s.lane.passageWait.isRunning = true) :
    exec .passageWaitExpiry s = .next (settleClear s (s.refund .wait)) :=
  congrArg Host.Outcome.next (if_pos running)

/-- The clear timer's end closes a lane in OPEN, and commands the barrier closed in either case (R124, R140). -/
theorem exec_clearTimerExpiry (running : s.lane.clearTimer.isRunning = true) :
    exec .clearTimerExpiry s = .next (settleClear s
      (s.setLane
        { s.lane with
          clearTimer := .stopped
          state := if s.lane.state = .opened then .closing else s.lane.state }).closeCommand) :=
  congrArg Host.Outcome.next (if_pos running)

/-- A plate classed EMPTY with its fault flag clear. -/
theorem Plate.isClear_iff {p : Plate} : p.isClear = true ↔ p.cls = .empty ∧ p.fault = false := by
  simp [Plate.isClear]

theorem State.platesClear_iff :
    s.platesClear = true ↔ ∀ p, (s.converter.plate p).cls = .empty ∧ (s.converter.plate p).fault = false := by
  simp only [State.platesClear, Bool.and_eq_true, Plate.isClear_iff]
  refine ⟨?_, fun h => ⟨h .a, h .b⟩⟩
  rintro ⟨a, b⟩ (_ | _)
  · exact a
  · exact b

/-- The tracker arms when both plates have settled and are clear, but for SETUP and the FLOW lane (R126, R127). -/
theorem exec_trackerArm (unarmed : s.lane.tracker.armed = false) (started : s.presence.state ≠ .setup)
    (settled : s.lane.settleMark = false) (notFlow : ¬s.flowMode = true) (clear : s.platesClear = true) :
    exec .trackerArm s =
      let armed := s.setLane { s.lane with tracker := { s.lane.tracker with state := .none, armed := true } }
      .next (settleClear s (if s.lane.state = .idle ∨ s.lane.state = .held then armed.closeCommand else armed)) := by
  have due : s.armDue = true := by simp [State.armDue, unarmed, started, settled, notFlow, clear]
  exact congrArg Host.Outcome.next (if_pos due)

theorem exec_loiterTimerExpiry {p : PlateId} (running : (s.lane.loiter p).isRunning = true) :
    exec (.loiterTimerExpiry p) s = .next ((s.setLane (s.lane.setLoiter p .stopped)).raise .loiter (plateCode p)) :=
  congrArg Host.Outcome.next (if_pos running)

/-! ## The clear timer's condition (R124, R140, R144) -/

theorem State.closingCondition_iff :
    s.closingCondition = true ↔
      s.lane.state = .opened ∧ (s.lane.remaining = 0 ∨ s.alightMode = true) ∧ s.lane.settleMark = false ∧
        s.platesClear = true ∧ s.barrier.state = .opened := by
  simp [State.closingCondition, and_assoc]

theorem State.recoveryCondition_iff :
    s.recoveryCondition = true ↔
      s.lane.state = .fault ∧ s.lane.recovery = true ∧ ¬s.flowMode = true ∧ s.lane.remaining = 0 ∧
        s.lane.settleMark = false ∧ s.platesClear = true := by
  simp [State.recoveryCondition, and_assoc]

theorem State.clearCondition_iff :
    s.clearCondition = true ↔
      s.presence.state ≠ .setup ∧ (s.closingCondition = true ∨ s.recoveryCondition = true) := by
  simp [State.clearCondition]

/-- The clear timer runs on while its condition holds. -/
theorem settleClear_of_kept (now : t.clearCondition = true) (before : s.clearCondition = true) : settleClear s t = t := by
  rw [settleClear, if_pos now, if_pos before]

/-- The clear timer starts when its condition comes to hold. -/
theorem settleClear_of_start (now : t.clearCondition = true) (before : s.clearCondition = false) :
    settleClear s t = t.setLane { t.lane with clearTimer := .running 300 } := by
  rw [settleClear, if_pos now, if_neg (by simp [before])]
  rfl

/-- The clear timer is stopped while its condition does not hold. -/
theorem settleClear_of_stop (now : t.clearCondition = false) :
    settleClear s t = t.setLane { t.lane with clearTimer := .stopped } := by
  rw [settleClear, if_neg (by simp [now])]

end LaneTimers

/-- Settles O55: the commands of the running timers; the clear timer's condition as its two parts with what they share. -/
theorem laneTimersExpire : Obligations.LaneTimersExpire := by
  refine ⟨?_, ?_, ?_, ?_, fun before after => ⟨?_, settleClear_of_kept, settleClear_of_start, settleClear_of_stop⟩⟩
  · intro s running some gate n idle told expired
    rw [exec_passageWaitExpiry running, State.refund_of_gate some gate,
      State.refundAccount_eq (s := s.passagesEnded) gate]
    rfl
  · intro s running
    rw [exec_clearTimerExpiry running]
    exact ⟨fun opened => by rw [if_pos opened], fun other => by rw [if_neg other]⟩
  · intro s unarmed started settled mode clear armed
    refine exec_trackerArm unarmed started settled (fun flow => ?_) (State.platesClear_iff.2 clear)
    obtain ⟨vessel, inFlow⟩ := State.flowMode_iff.1 flow
    rcases mode with gate | alight
    · exact gate vessel
    · simp [inFlow] at alight
  · exact fun s => ⟨exec_loiterTimerExpiry (p := .a), exec_loiterTimerExpiry (p := .b)⟩
  · rw [State.clearCondition_iff, State.closingCondition_iff, State.recoveryCondition_iff, State.platesClear_iff,
      State.flowMode_iff, State.alightMode_iff]
    constructor
    · rintro ⟨started, ⟨opened, finished, settled, clear, barrier⟩ | ⟨fault, recovery, notFlow, finished, settled, clear⟩⟩
      · exact ⟨started, settled, clear, .inl ⟨opened, finished, barrier⟩⟩
      · exact ⟨started, settled, clear, .inr ⟨fault, recovery, notFlow, finished⟩⟩
    · rintro ⟨started, settled, clear, ⟨opened, finished, barrier⟩ | ⟨fault, recovery, notFlow, finished⟩⟩
      · exact ⟨started, .inl ⟨opened, finished, settled, clear, barrier⟩⟩
      · exact ⟨started, .inr ⟨fault, recovery, notFlow, finished, settled, clear⟩⟩

end Sys2Proof.Machine
end

section
/-! SUPPORT. The tracker's walk and the counting of passages (R128 to R132, R142, R144): one equation per tracker state and change of
a plate, and the units of a forward passage counted at once. -/

namespace Sys2Proof.Machine

section Walk

variable {t : Tracker} {p : PlateId}

/-! ## The tracker's steps (R128 to R130) -/

/-- A person steps on a plate with no passage in progress: the plate gives the direction. -/
theorem Tracker.step_of_none (none : t.state = .none) (multiple : Bool) :
    t.step p true multiple =
      ({ t with
          state := .entering
          direction := if p = .a then .forward else .reverse
          multiple := decide (p = .b) && multiple
          exited := false }, .none) := by
  simp [Tracker.step, none]

theorem Tracker.step_empty_of_none (none : t.state = .none) (multiple : Bool) :
    t.step p false multiple = (t, .none) := by
  simp [Tracker.step, none]

/-- In a passage a plate that becomes occupied leads on to CROSSING, or changes nothing. -/
theorem Tracker.step_occupied (some : t.state ≠ .none) (multiple : Bool) :
    t.step p true multiple =
      ({ t with
          state :=
            if t.state = .entering ∧ p ≠ t.direction.entry ∨ t.state = .leaving ∧ p = t.direction.entry then .crossing
            else t.state }, .none) := by
  obtain ⟨state, direction, armed, mark, exited⟩ := t
  cases state
  case none => exact absurd rfl some
  case crossing => simp [Tracker.step]
  all_goals by_cases entry : p = direction.entry <;> simp [Tracker.step, entry]

theorem Tracker.step_empty_of_entering (entering : t.state = .entering) (multiple : Bool) :
    t.step p false multiple = (if p = t.direction.entry then { t with state := .none } else t, .none) := by
  by_cases entry : p = t.direction.entry <;> simp [Tracker.step, entering, entry]

/-- The entry plate is left: the exit mark is set. -/
theorem Tracker.step_empty_of_crossing_entry (crossing : t.state = .crossing) (entry : p = t.direction.entry)
    (multiple : Bool) : t.step p false multiple = ({ t with state := .leaving, exited := true }, .none) := by
  simp [Tracker.step, crossing, entry]

/-- The far plate is left before the entry plate was: a step back. -/
theorem Tracker.step_empty_of_crossing_back (crossing : t.state = .crossing) (far : p ≠ t.direction.entry)
    (inside : t.exited = false) (multiple : Bool) : t.step p false multiple = ({ t with state := .entering }, .none) := by
  simp [Tracker.step, crossing, far, inside]

/-- The far plate is left with the exit mark set: the passage completes while the next person is on the entry plate. -/
theorem Tracker.step_empty_of_crossing_completes (crossing : t.state = .crossing) (far : p ≠ t.direction.entry)
    (exited : t.exited = true) (multiple : Bool) :
    t.step p false multiple =
      ({ t with state := .entering, multiple := false, exited := false }, some (t.direction, t.multiple)) := by
  simp [Tracker.step, crossing, far, exited]

theorem Tracker.step_empty_of_leaving_entry (leaving : t.state = .leaving) (entry : p = t.direction.entry)
    (multiple : Bool) : t.step p false multiple = (t, .none) := by
  simp [Tracker.step, leaving, entry]

/-- The far plate is left last: the passage completes. -/
theorem Tracker.step_empty_of_leaving (leaving : t.state = .leaving) (far : p ≠ t.direction.entry) (multiple : Bool) :
    t.step p false multiple = ({ t with state := .none }, some (t.direction, t.multiple)) := by
  simp [Tracker.step, leaving, far]

end Walk

section Counting

variable {s : State} {n : Nat}

/-! ## The units of a passage (R82, R131) -/

/-- The unpaid units that the lane's totals take of `n` units: with a window in view, up to 65535. -/
def State.countedUnits (s : State) (n : Nat) : Nat :=
  if s.view.state = .none then 0 else min (n - s.lane.remaining) (65535 - s.lane.unpaid)

/-- Those of them that free credits are charged for. -/
def State.chargedUnits (s : State) (n : Nat) : Nat := min (s.countedUnits n) s.freeCredits

/-- Those of them that find no free credit. -/
def State.excessUnits (s : State) (n : Nat) : Nat := s.countedUnits n - s.chargedUnits n

/-- Account and lane after `n` units of a forward passage. -/
def State.unitsCounted (s : State) (n : Nat) : State :=
  (s.setAccount { s.account with charged := s.account.charged + s.chargedUnits n }).setLane
    { s.lane with
      remaining := s.lane.remaining - n
      paid := s.lane.paid + min n s.lane.remaining
      unpaid := s.lane.unpaid + s.countedUnits n
      excess := s.lane.excess + s.excessUnits n }

/-- The units of a passage, read out of the count that they add to. -/
def UnitCount.plus (k : UnitCount) (s : State) (n : Nat) : UnitCount :=
  { paid := k.paid + min n s.lane.remaining
    unpaid := k.unpaid + (n - s.lane.remaining)
    excess := k.excess + s.excessUnits n }

@[simp] theorem State.unitsCounted_view (s : State) (n : Nat) : (s.unitsCounted n).view = s.view := rfl

@[simp] theorem State.unitsCounted_lane (s : State) (n : Nat) :
    (s.unitsCounted n).lane =
      { s.lane with
        remaining := s.lane.remaining - n
        paid := s.lane.paid + min n s.lane.remaining
        unpaid := s.lane.unpaid + s.countedUnits n
        excess := s.lane.excess + s.excessUnits n } := rfl

theorem State.unitsCounted_freeCredits (s : State) (n : Nat) :
    (s.unitsCounted n).freeCredits = s.freeCredits - s.chargedUnits n := by
  change s.account.granted - s.account.returned - (s.account.charged + s.chargedUnits n) - s.account.reserved =
    s.account.granted - s.account.returned - s.account.charged - s.account.reserved - s.chargedUnits n
  omega

/-! The units of a passage add up: those of its first part, then those of the rest on what the first part left. -/

theorem State.countedUnits_add (s : State) (m n : Nat) :
    s.countedUnits (m + n) = s.countedUnits m + (s.unitsCounted m).countedUnits n := by
  by_cases none : s.view.state = .none
  · simp [State.countedUnits, none]
  · simp only [State.countedUnits, State.unitsCounted_view, State.unitsCounted_lane, if_neg none]
    omega

theorem State.chargedUnits_add (s : State) (m n : Nat) :
    s.chargedUnits (m + n) = s.chargedUnits m + (s.unitsCounted m).chargedUnits n := by
  have free := s.unitsCounted_freeCredits m
  have counted := s.countedUnits_add m n
  simp only [State.chargedUnits] at free ⊢
  omega

theorem State.excessUnits_add (s : State) (m n : Nat) :
    s.excessUnits (m + n) = s.excessUnits m + (s.unitsCounted m).excessUnits n := by
  have counted := s.countedUnits_add m n
  have charged := s.chargedUnits_add m n
  have fits (t : State) (i : Nat) : t.chargedUnits i ≤ t.countedUnits i := Nat.min_le_left ..
  have first := fits s m
  have rest := fits (s.unitsCounted m) n
  simp only [State.excessUnits]
  omega

theorem State.unitsCounted_add (s : State) (m n : Nat) : s.unitsCounted (m + n) = (s.unitsCounted m).unitsCounted n := by
  have paid : min (m + n) s.lane.remaining = min m s.lane.remaining + min n (s.lane.remaining - m) := by omega
  simp only [State.unitsCounted, s.countedUnits_add m n, s.chargedUnits_add m n, s.excessUnits_add m n, paid,
    Nat.sub_add_eq, ← Nat.add_assoc]
  rfl

theorem UnitCount.plus_add (k : UnitCount) (s : State) (m n : Nat) :
    k.plus s (m + n) = (k.plus s m).plus (s.unitsCounted m) n := by
  have paid : min (m + n) s.lane.remaining = min m s.lane.remaining + min n (s.lane.remaining - m) := by omega
  have unpaid : m + n - s.lane.remaining = (m - s.lane.remaining) + (n - (s.lane.remaining - m)) := by omega
  simp only [UnitCount.plus, s.excessUnits_add m n, paid, unpaid, ← Nat.add_assoc]
  rfl

/-- One unit: authorised, not counted, charged to a free credit, or in excess. -/
theorem State.countUnit_eq (s : State) (k : UnitCount) : s.countUnit k = (s.unitsCounted 1, k.plus s 1) := by
  unfold State.countUnit
  by_cases paid : 0 < s.lane.remaining
  · have one : min 1 s.lane.remaining = 1 := by omega
    have none : 1 - s.lane.remaining = 0 := by omega
    simp only [if_pos paid, State.unitsCounted, UnitCount.plus, State.excessUnits, State.chargedUnits, State.countedUnits, one,
      none, Nat.zero_min, ite_self, Nat.sub_self, Nat.add_zero]
    rfl
  have stays : s.lane.remaining - 1 = s.lane.remaining := by omega
  have none : min 1 s.lane.remaining = 0 := by omega
  have unpaid : 1 - s.lane.remaining = 1 := by omega
  rw [if_neg paid]
  by_cases counts : s.view.state ≠ .none ∧ s.lane.unpaid < Config.countTop
  · obtain ⟨inView, room⟩ := counts
    have counted : s.countedUnits 1 = 1 := by
      change s.lane.unpaid < 65535 at room
      rw [State.countedUnits, if_neg inView]
      omega
    rw [if_pos ⟨inView, room⟩]
    by_cases free : 0 < s.freeCredits
    · have charged : s.chargedUnits 1 = 1 := by
        rw [State.chargedUnits, counted]
        omega
      simp only [if_pos free, State.unitsCounted, UnitCount.plus, State.excessUnits, counted, charged, stays, none,
        unpaid]
      rfl
    · have charged : s.chargedUnits 1 = 0 := by
        rw [State.chargedUnits, counted]
        omega
      simp only [if_neg free, State.unitsCounted, UnitCount.plus, State.excessUnits, counted, charged, stays, none,
        unpaid]
      rfl
  · have counted : s.countedUnits 1 = 0 := by
      rw [State.countedUnits]
      split
      next => rfl
      next inView =>
        have full : ¬s.lane.unpaid < 65535 := fun room => counts ⟨inView, room⟩
        omega
    have charged : s.chargedUnits 1 = 0 := by simp [State.chargedUnits, counted]
    simp only [if_neg counts, State.unitsCounted, UnitCount.plus, State.excessUnits, counted, charged, stays, none,
        unpaid]
    rfl

theorem State.countUnits_eq (n : Nat) (s : State) (k : UnitCount) :
    State.countUnits n s k = (s.unitsCounted n, k.plus s n) := by
  induction n generalizing s k with
  | zero =>
    simp only [State.unitsCounted, UnitCount.plus, State.excessUnits, State.chargedUnits, State.countedUnits, Nat.zero_sub,
      Nat.zero_min, ite_self, Nat.sub_zero, Nat.add_zero]
    rfl
  | succ n ih => rw [State.countUnits, ih, State.countUnit_eq, Nat.add_comm n 1, State.unitsCounted_add, UnitCount.plus_add]

/-! ## A forward passage at a gate (R123, R131, R132) -/

/-- The passage wait after a passage that leaves `left` passages authorised (R123). -/
def State.waitAfter (s : State) (left : Nat) : Timer := if left = 0 then .stopped else s.fullPassageWait

/-- A passage of `n` units: account and lane, then the events of its paid and of its unpaid units, then the background check of a
charged unit. -/
def State.forwardCounted (s : State) (n : Nat) : State :=
  let u := (s.unitsCounted n).setLane
    { (s.unitsCounted n).lane with passageWait := s.waitAfter (s.lane.remaining - n) }
  let v :=
    if 0 < min n s.lane.remaining then u.raise .passageCounted (min n s.lane.remaining) (s.lane.remaining - n) else u
  let w :=
    if 0 < n - s.lane.remaining then
      v.raise s.unpaidKind (n - s.lane.remaining) (s.excessUnits n) s.view.number
    else v
  if s.chargedUnits n = 0 then w else w.backgroundCheck

theorem State.countForward_eq (s : State) (multiple : Bool) :
    s.countForward multiple = s.forwardCounted (if multiple then 2 else 1) := by
  have raised (c : Prop) [Decidable c] (t : State) (k : EventKind) (a b d : Nat) :
      (if c then t.raise k a b d else t).account = t.account := by
    split <;> simp
  unfold State.countForward State.forwardCounted
  generalize (if multiple then 2 else 1) = n
  simp only [State.countUnits_eq, UnitCount.plus, Nat.zero_add]
  refine if_congr ?_ rfl rfl
  rw [raised, raised]
  exact Nat.add_eq_left

theorem State.passageComplete_of_egress (egress : s.lane.state = .egress) (direction : Direction) (multiple : Bool) :
    s.passageComplete direction multiple =
      s.setLane { s.lane with egressPassages := min (s.lane.egressPassages + 1) 65535 } :=
  if_pos egress

/-- Against the way of the station: a reverse passage at a gate, a forward one at the vessel station (R131, R144). -/
theorem State.passageComplete_of_wrongWay (notEgress : s.lane.state ≠ .egress) {direction : Direction}
    (wrong : s.presence.number ≠ 0 ↔ direction = .reverse) (multiple : Bool) :
    s.passageComplete direction multiple = s.raise .wrongWay s.lane.state.code := by
  cases direction
  case forward =>
    have vessel : ¬s.isGate = true := fun gate => nomatch wrong.1 (State.isGate_iff.1 gate)
    rw [State.passageComplete, if_neg notEgress, if_neg vessel]
  case reverse => rw [State.passageComplete, if_neg notEgress, if_pos (State.isGate_iff.2 (wrong.2 rfl))]

theorem State.passageComplete_of_alighting (notEgress : s.lane.state ≠ .egress) (vessel : s.presence.number = 0)
    (multiple : Bool) : s.passageComplete .reverse multiple = s.alight := by
  rw [State.passageComplete, if_neg notEgress, if_neg fun gate => State.isGate_iff.1 gate vessel]

theorem State.passageComplete_of_forward (notEgress : s.lane.state ≠ .egress) (gate : s.presence.number ≠ 0)
    (multiple : Bool) :
    s.passageComplete .forward multiple = s.forwardCounted (if multiple then 2 else 1) := by
  rw [State.passageComplete, if_neg notEgress, if_pos (State.isGate_iff.2 gate), State.countForward_eq]

/-- A passage of authorised units alone: paid, and nothing to charge. -/
theorem State.forwardCounted_of_paid (some : 0 < n) (authorised : n ≤ s.lane.remaining) :
    s.forwardCounted n =
      (s.setLane
        { s.lane with
          remaining := s.lane.remaining - n, paid := s.lane.paid + n,
          passageWait := s.waitAfter (s.lane.remaining - n) }).raise .passageCounted n (s.lane.remaining - n) := by
  have paid : min n s.lane.remaining = n := Nat.min_eq_left authorised
  have none : n - s.lane.remaining = 0 := Nat.sub_eq_zero_of_le authorised
  have counted : s.countedUnits n = 0 := by simp [State.countedUnits, none]
  have charged : s.chargedUnits n = 0 := by simp [State.chargedUnits, counted]
  simp only [State.forwardCounted, State.unitsCounted, State.excessUnits, paid, none, counted, charged, if_pos some,
    Nat.lt_irrefl, if_true, if_false]
  rfl

/-- A passage with unpaid units: none remain authorised, and what was authorised is told first. -/
theorem State.forwardCounted_of_unpaid (unpaid : s.lane.remaining < n) :
    s.forwardCounted n =
      let units := (s.setAccount { s.account with charged := s.account.charged + s.chargedUnits n }).setLane
        { s.lane with
          remaining := 0, paid := s.lane.paid + s.lane.remaining, unpaid := s.lane.unpaid + s.countedUnits n,
          excess := s.lane.excess + s.excessUnits n, passageWait := .stopped }
      let told :=
        (if s.lane.remaining = 0 then units else units.raise .passageCounted s.lane.remaining 0).raise s.unpaidKind
          (n - s.lane.remaining) (s.excessUnits n) s.view.number
      if s.chargedUnits n = 0 then told else told.backgroundCheck := by
  have paid : min n s.lane.remaining = s.lane.remaining := Nat.min_eq_right unpaid.le
  have none : s.lane.remaining - n = 0 := Nat.sub_eq_zero_of_le unpaid.le
  have some : 0 < n - s.lane.remaining := Nat.sub_pos_of_lt unpaid
  simp only [State.forwardCounted, State.unitsCounted, paid, none, if_pos some]
  simp only [Nat.pos_iff_ne_zero, ne_eq, ite_not]
  rfl

/-- A passage of one unpaid unit, by what the totals take of it and what is charged for it. -/
theorem State.forwardCounted_one {counted charged : Nat} (none : s.lane.remaining = 0) (hc : s.countedUnits 1 = counted)
    (hg : s.chargedUnits 1 = charged) :
    s.forwardCounted 1 =
      let units := (s.setAccount { s.account with charged := s.account.charged + charged }).setLane
        { s.lane with
          unpaid := s.lane.unpaid + counted, excess := s.lane.excess + (counted - charged), passageWait := .stopped }
      let told := units.raise s.unpaidKind 1 (counted - charged) s.view.number
      if charged = 0 then told else told.backgroundCheck := by
  rw [State.forwardCounted_of_unpaid (none ▸ Nat.one_pos)]
  simp only [State.excessUnits, hc, hg, none, if_true]
  rfl

/-- Unpaid units count as an intrusion where nobody was let in, and behind a closed barrier in FAULT (R132). -/
theorem State.unpaidKind_eq (s : State) :
    s.unpaidKind =
      if s.lane.state = .idle ∨ s.lane.state = .held ∨ (s.lane.state = .fault ∧ s.barrier.state = .closed) then .intrusion
      else .tailgate := by
  unfold State.unpaidKind
  cases s.lane.state
  case fault => simp
  all_goals rfl

end Counting

/-- Settles O59: the walk by the tracker's steps; a passage by lane and role; a forward one by its paid and its unpaid units. -/
theorem passagesAreCounted : Obligations.PassagesAreCounted := by
  refine ⟨?_, fun s direction multiple egress => State.passageComplete_of_egress egress direction multiple,
    fun s direction multiple notEgress wrong => State.passageComplete_of_wrongWay notEgress wrong multiple,
    fun s multiple notEgress vessel => State.passageComplete_of_alighting notEgress vessel multiple, ?_⟩
  · intro t p none first second direction entering crossing leaving
    have entry : first = direction.entry := by cases p <;> rfl
    have far : second ≠ direction.entry := by cases p <;> decide
    refine ⟨?_, Tracker.step_empty_of_none none _, ?_, ?_, ?_, Tracker.step_empty_of_crossing_back rfl far rfl _,
      Tracker.step_empty_of_crossing_entry rfl entry _, ?_, Tracker.step_empty_of_leaving rfl far _,
      Tracker.step_empty_of_crossing_completes rfl far rfl _⟩
    · rw [Tracker.step_of_none none]
      cases p <;> rfl
    · rw [Tracker.step_empty_of_entering rfl, if_pos entry]
    · rw [Tracker.step_occupied (by simp [entering]), if_pos (.inl ⟨rfl, far⟩)]
    · rw [Tracker.step_empty_of_entering rfl, if_neg far]
    · rw [Tracker.step_occupied (by simp [leaving]), if_pos (.inr ⟨rfl, entry⟩)]
  · intro s notEgress gate wait
    have forward := State.passageComplete_of_forward notEgress gate
    refine ⟨fun one => ?_, fun both => ?_, ?_⟩
    · rw [forward]
      exact State.forwardCounted_of_paid Nat.one_pos one
    · rw [forward]
      exact State.forwardCounted_of_paid Nat.two_pos both
    intro kind two
    have kinds : s.unpaidKind = kind := s.unpaidKind_eq
    refine ⟨fun short => ?_, fun none => ?_⟩
    · rw [forward]
      refine (State.forwardCounted_of_unpaid (Nat.lt_succ_of_le short)).trans ?_
      rw [kinds]
      rfl
    have counts (inView : s.view.state ≠ .none) (room : s.lane.unpaid < 65535) : s.countedUnits 1 = 1 := by
      rw [State.countedUnits, if_neg inView]
      omega
    rw [forward, ← kinds]
    refine ⟨fun untold => ?_, fun inView room noCredit => ?_, fun inView room free => ?_⟩
    · have counted : s.countedUnits 1 = 0 := by
        rw [State.countedUnits]
        split
        next => rfl
        next inView => rw [Nat.sub_eq_zero_of_le (untold.resolve_left inView), Nat.min_zero]
      exact State.forwardCounted_one none counted (by rw [State.chargedUnits, counted, Nat.zero_min])
    · exact State.forwardCounted_one none (counts inView room) (by rw [State.chargedUnits, noCredit, Nat.min_zero])
    · have charged : s.chargedUnits 1 = 1 := by
        rw [State.chargedUnits, counts inView room]
        omega
      exact State.forwardCounted_one none (counts inView room) charged

end Sys2Proof.Machine
end

section
/-! SUPPORT. A class change of a plate at the lane and at the barrier driver (R123, R127 to R130, R133, R144, R151, R166): the parts of
its delivery for a change within occupancy, an arrival on the plate, and a departure from it. -/

namespace Sys2Proof.Machine

section ClassChanges

variable {s : State} {p : PlateId} {old : PlateClass}

theorem Direction.eq_entry_iff {d : Direction} :
    p = d.entry ↔ (d = .forward ∧ p = .a) ∨ (d = .reverse ∧ p = .b) := by
  cases d <;> simp [Direction.entry]

theorem Lane.setLoiter_eq (l : Lane) (p : PlateId) (t : Timer) :
    l.setLoiter p t =
      { l with loiterA := if p = .a then t else l.loiterA, loiterB := if p = .b then t else l.loiterB } := by
  cases p <;> rfl

/-! ## The delivery: the lane, then the barrier driver (log entry 5) -/

theorem State.deliverClass_of_occupied (occupied : old ≠ .empty) :
    s.deliverClass p old = ((s.alightOpen p old).loiterChange p old).trackerChange p old :=
  if_neg fun ⟨empty, _⟩ => occupied empty

theorem State.deliverClass_of_arrival (arrives : (s.converter.plate p).cls ≠ .empty) :
    s.deliverClass p .empty =
      (((s.alightOpen p .empty).loiterChange p .empty).trackerChange p .empty).plateBroken :=
  if_pos ⟨rfl, arrives⟩

theorem State.alightOpen_of_occupied (occupied : old ≠ .empty) : s.alightOpen p old = s :=
  if_neg fun ⟨_, empty, _⟩ => occupied empty

/-- The tracker as a change of plate B to MULTIPLE marks it: only in a passage (R130). -/
def Tracker.marked (t : Tracker) (multiple : Bool) : Tracker :=
  { t with multiple := t.multiple || (multiple && t.state != .none) }

theorem Tracker.marked_of_none {t : Tracker} (none : t.state = .none) (multiple : Bool) : t.marked multiple = t := by
  have unmarked : (multiple && t.state != .none) = false := by simp [none]
  rw [Tracker.marked, unmarked, Bool.or_false]

theorem Tracker.marked_of_some {t : Tracker} (some : t.state ≠ .none) (multiple : Bool) :
    t.marked multiple = { t with multiple := t.multiple || multiple } := by
  simp [Tracker.marked, bne_iff_ne.2 some]

theorem Tracker.marked_false (t : Tracker) : t.marked false = t := by
  simp [Tracker.marked]

/-- The lane with its tracker at a new place. -/
def State.withTracker (s : State) (t : Tracker) : State := s.setLane { s.lane with tracker := t }

/-- The lane back at NONE: the passage wait resumed (log entry 11), and the finished report made. -/
def State.trackerHome (s : State) : State :=
  (s.setLane { s.lane with passageWait := s.lane.passageWait.resume }).tallyCheck

theorem State.trackerChange_of_unarmed (unarmed : s.lane.tracker.armed = false) : s.trackerChange p old = s := by
  rw [State.trackerChange, unarmed]
  rfl

/-- An armed tracker takes a change within occupancy as a mark alone. -/
theorem State.trackerChange_of_within (armed : s.lane.tracker.armed = true)
    (within : (old == .empty) = ((s.converter.plate p).cls == .empty)) :
    s.trackerChange p old =
      s.withTracker (s.lane.tracker.marked (p == .b && (s.converter.plate p).cls == .multiple)) :=
  (if_pos armed).trans (if_pos within)

/-- An armed tracker takes a change of occupancy as one step, and the passage that completes is counted. -/
theorem State.trackerChange_of_step (armed : s.lane.tracker.armed = true)
    (changes : ¬(old == .empty) = ((s.converter.plate p).cls == .empty)) {t : Tracker}
    {done : Option (Direction × Bool)}
    (stepped : (s.lane.tracker.marked (p == .b && (s.converter.plate p).cls == .multiple)).step p
      ((s.converter.plate p).cls != .empty) ((s.converter.plate p).cls == .multiple) = (t, done)) :
    s.trackerChange p old =
      let w := s.setLane
        { s.lane with
          tracker := t
          passageWait :=
            if s.lane.tracker.state = .none then s.lane.passageWait.suspend else s.lane.passageWait }
      let u := done.elim w fun passage => w.passageComplete passage.1 passage.2
      if t.state = .none then u.trackerHome else u := by
  refine (if_pos armed).trans ((if_neg changes).trans ?_)
  rw [Tracker.marked] at stepped
  rw [stepped]
  cases done <;> rfl

/-! ## A change within occupancy -/

theorem State.loiterChange_of_occupied (occupied : old ≠ .empty) (stays : (s.converter.plate p).cls ≠ .empty) :
    s.loiterChange p old = s :=
  (if_neg stays).trans (if_neg fun ⟨empty, _⟩ => occupied empty)

/-- Plate B at MULTIPLE marks a passage in progress (R130). -/
theorem State.trackerChange_of_occupied (occupied : old ≠ .empty) (stays : (s.converter.plate p).cls ≠ .empty) :
    s.trackerChange p old =
      if s.lane.tracker.armed = true ∧ s.lane.tracker.state ≠ .none ∧ p = .b ∧
          (s.converter.plate p).cls = .multiple then
        s.setLane { s.lane with tracker := { s.lane.tracker with multiple := true } }
      else s := by
  by_cases armed : s.lane.tracker.armed = true
  case neg =>
    rw [State.trackerChange_of_unarmed (Bool.eq_false_of_not_eq_true armed)]
    exact (if_neg fun marks => armed marks.1).symm
  have within : (old == .empty) = ((s.converter.plate p).cls == .empty) := by simp [occupied, stays]
  rw [State.trackerChange_of_within armed within]
  by_cases passing : s.lane.tracker.state = .none
  · rw [Tracker.marked_of_none passing, if_neg (by simp [passing])]
    rfl
  rw [Tracker.marked_of_some passing]
  by_cases marks : p = .b ∧ (s.converter.plate p).cls = .multiple
  · have marked : (p == .b && (s.converter.plate p).cls == .multiple) = true := by simpa using marks
    rw [if_pos ⟨armed, passing, marks⟩, marked, Bool.or_true]
    rfl
  · have unmarked : (p == .b && (s.converter.plate p).cls == .multiple) = false := by simpa using marks
    rw [if_neg fun ⟨_, _, rest⟩ => marks rest, unmarked, Bool.or_false]
    rfl

/-! ## An arrival -/

theorem State.alightOpen_of_arrival (arrives : (s.converter.plate p).cls ≠ .empty) :
    s.alightOpen p .empty =
      if p = .b ∧ s.presence.number = 0 ∧ s.lane.mode = .alight ∧ s.lane.state = .idle then
        (s.setLane { s.lane with state := .opening }).openCommand false
      else s := by
  simp only [State.alightOpen, State.alightMode_iff, arrives, ne_eq, not_false_eq_true, true_and, and_assoc]

theorem State.loiterChange_of_arrival (arrives : (s.converter.plate p).cls ≠ .empty) :
    s.loiterChange p .empty =
      if (s.converter.plate p).fault = true ∨ s.flowMode = true then s
      else s.setLane (s.lane.setLoiter p (.running 30000)) := by
  rw [State.loiterChange, if_neg arrives]
  by_cases untimed : (s.converter.plate p).fault = true ∨ s.flowMode = true
  · rw [if_pos untimed]
    refine if_neg fun ⟨_, sound, notFlow⟩ => ?_
    rcases untimed with fault | flow
    · simp [fault] at sound
    · simp [flow] at notFlow
  · obtain ⟨sound, notFlow⟩ := not_or.1 untimed
    rw [if_neg untimed]
    exact if_pos ⟨rfl, by simp [sound], by simp [notFlow]⟩

/-- An arrival begins a passage, or leads one on (R128, R129); with the first the passage wait is suspended (R123). -/
theorem State.trackerChange_of_arrival (armed : s.lane.tracker.armed = true)
    (arrives : (s.converter.plate p).cls ≠ .empty) :
    s.trackerChange p .empty =
      if s.lane.tracker.state = .none then
        s.setLane
          { s.lane with
            tracker :=
              { state := .entering, direction := if p = .a then .forward else .reverse, armed := true,
                multiple := p == .b && (s.converter.plate p).cls == .multiple, exited := false }
            passageWait := s.lane.passageWait.suspend }
      else
        s.setLane
          { s.lane with
            tracker :=
              { s.lane.tracker with
                multiple := s.lane.tracker.multiple || (p == .b && (s.converter.plate p).cls == .multiple)
                state :=
                  if s.lane.tracker.state = .entering ∧ p ≠ s.lane.tracker.direction.entry ∨
                      s.lane.tracker.state = .leaving ∧ p = s.lane.tracker.direction.entry then .crossing
                  else s.lane.tracker.state } } := by
  have changes : ¬(PlateClass.empty == .empty) = ((s.converter.plate p).cls == .empty) := by simp [arrives]
  have occupied : ((s.converter.plate p).cls != .empty) = true := by simp [arrives]
  by_cases none : s.lane.tracker.state = .none
  · have enters := Tracker.step_of_none (p := p) none ((s.converter.plate p).cls == .multiple)
    rw [← occupied, ← Tracker.marked_of_none none (p == .b && (s.converter.plate p).cls == .multiple)] at enters
    rw [State.trackerChange_of_step armed changes enters, if_pos none, Tracker.marked_of_none none, if_pos none, armed]
    rfl
  · have goesOn := Tracker.step_occupied (p := p)
      (t := s.lane.tracker.marked (p == .b && (s.converter.plate p).cls == .multiple)) none
      ((s.converter.plate p).cls == .multiple)
    rw [← occupied] at goesOn
    rw [State.trackerChange_of_step armed changes goesOn, if_neg none, Tracker.marked_of_some none, if_neg none]
    refine if_neg ?_
    dsimp only
    split
    · decide
    · exact none

/-! ## A departure -/

theorem State.loiterChange_of_departure (departs : (s.converter.plate p).cls = .empty) :
    s.loiterChange p old = s.setLane (s.lane.setLoiter p .stopped) :=
  if_pos departs

/-- A departure takes the tracker one step, and the passage that completes is counted. -/
theorem State.trackerChange_of_departure (armed : s.lane.tracker.armed = true) (some : s.lane.tracker.state ≠ .none)
    (occupied : old ≠ .empty) (departs : (s.converter.plate p).cls = .empty) {t : Tracker}
    {done : Option (Direction × Bool)} (stepped : s.lane.tracker.step p false false = (t, done)) :
    s.trackerChange p old =
      let u := done.elim (s.withTracker t) fun passage => (s.withTracker t).passageComplete passage.1 passage.2
      if t.state = .none then u.trackerHome else u := by
  have changes : ¬(old == .empty) = ((s.converter.plate p).cls == .empty) := by simp [occupied, departs]
  have left : ((s.converter.plate p).cls != .empty) = false := by simp [departs]
  have unmarked : ((s.converter.plate p).cls == .multiple) = false := by simp [departs]
  have step : (s.lane.tracker.marked (p == .b && (s.converter.plate p).cls == .multiple)).step p
      ((s.converter.plate p).cls != .empty) ((s.converter.plate p).cls == .multiple) = (t, done) := by
    rw [left, unmarked, Bool.and_false, Tracker.marked_false, stepped]
  rw [State.trackerChange_of_step armed changes step, if_neg some]
  rfl

/-- The tracker is where the change put it: the passage that completes moves no tracker. -/
@[simp] theorem State.passageComplete_tracker (s : State) (direction : Direction) (multiple : Bool) :
    (s.passageComplete direction multiple).lane.tracker = s.lane.tracker := by
  have counted (n : Nat) : (s.forwardCounted n).lane.tracker = s.lane.tracker := by
    unfold State.forwardCounted State.unitsCounted
    dsimp only
    split <;> split <;> split <;> simp
  by_cases egress : s.lane.state = .egress
  · rw [State.passageComplete_of_egress egress]
    rfl
  by_cases gate : s.presence.number = 0 <;> cases direction
  · rw [State.passageComplete_of_wrongWay egress (by simp [gate])]
    simp
  · rw [State.passageComplete_of_alighting egress gate]
    simp
  · rw [State.passageComplete_of_forward egress gate]
    exact counted _
  · rw [State.passageComplete_of_wrongWay egress (by simpa using gate)]
    simp

/-- With the tracker at NONE, the finished report turns on the authorisations left (R61, R125). -/
theorem State.trackerHome_eq (home : s.lane.tracker.state = .none) :
    s.trackerHome =
      let w := s.setLane { s.lane with passageWait := s.lane.passageWait.resume }
      if s.presence.number ≠ 0 ∧ s.view.state = .closed ∧ s.view.tallyPending = false ∧ s.lane.remaining = 0 then
        (w.queueKind .tally).setView { w.view with tallyPending := true }
      else w := by
  unfold State.trackerHome State.tallyCheck
  refine if_congr ?_ rfl rfl
  simp [State.isGate_iff, State.laneFinished, home]

/-! ## The barrier driver at an arrival (R166) -/

theorem State.plateBroken_of_closing (closing : s.barrier.state = .closing) :
    s.plateBroken = (s.setBarrier s.barrier.reversed).reportReversed :=
  if_pos closing

theorem State.plateBroken_of_paused (paused : s.barrier.state = .paused) {m : Movement}
    (moves : s.barrier.movement = some m) :
    s.plateBroken =
      if m.direction = .closedEnd then (s.setBarrier s.barrier.unpaused).reportReversed else s := by
  rw [State.plateBroken, if_neg (by simp [paused])]
  refine if_congr ?_ rfl rfl
  simp [Barrier.pausedClosing, paused, moves]

theorem State.plateBroken_of_rest (notClosing : s.barrier.state ≠ .closing) (notPaused : s.barrier.state ≠ .paused) :
    s.plateBroken = s := by
  rw [State.plateBroken, if_neg notClosing]
  exact if_neg (by simp [Barrier.pausedClosing, notPaused])

/-! ## The obligation -/

@[simp] theorem State.alightOpen_keepsPassage (s : State) (p : PlateId) (old : PlateClass) :
    KeepsPassage s (s.alightOpen p old) := by
  unfold State.alightOpen
  split <;> simp

/-- Settles O57: a change within occupancy marks at most, an arrival takes alight opening, loiter timer, tracker and barrier in
turn, and a departure takes the tracker's step after the loiter timer's stop. -/
theorem classChangesAct : Obligations.ClassChangesAct := by
  intro s p old plate tracker atEntry flow suspended resumed
  have entry_iff : p = tracker.direction.entry ↔ atEntry := Direction.eq_entry_iff
  refine ⟨fun occupied stays => ?within, fun empty arrives => ?arrival, fun occupied departs => ?departure⟩
  case within =>
    rw [State.deliverClass_of_occupied occupied, State.alightOpen_of_occupied occupied,
      State.loiterChange_of_occupied occupied stays, State.trackerChange_of_occupied occupied stays]
  case arrival =>
    subst empty
    intro opened timed tracked origin turned
    have opens : s.alightOpen p .empty = opened := State.alightOpen_of_arrival arrives
    have converter : opened.converter = s.converter := by simp [← opens]
    have presence : opened.presence = s.presence := by simp [← opens]
    have mode : opened.lane.mode = s.lane.mode := by simp [← opens]
    have walk : opened.lane.tracker = tracker ∧ opened.lane.passageWait = s.lane.passageWait := by
      simp [← opens, tracker]
    have loiters : opened.lane.loiterA = s.lane.loiterA ∧ opened.lane.loiterB = s.lane.loiterB := by simp [← opens]
    have times : opened.loiterChange p .empty = timed := by
      have occupied : (opened.converter.plate p).cls ≠ .empty := by rwa [converter]
      rw [State.loiterChange_of_arrival occupied, Lane.setLoiter_eq, loiters.1, loiters.2]
      exact if_congr (by rw [State.flowMode_iff, presence, mode, converter]) rfl rfl
    have timedConverter : timed.converter = s.converter := by
      rw [← times, ← converter]
      simp
    have timedWalk : timed.lane.tracker = tracker ∧ timed.lane.passageWait = s.lane.passageWait := by
      rw [← walk.1, ← walk.2]
      dsimp only [timed]
      split <;> exact ⟨rfl, rfl⟩
    have tracks : timed.trackerChange p .empty = tracked := by
      have occupied : (timed.converter.plate p).cls ≠ .empty := by rwa [timedConverter]
      have suspends : timed.lane.passageWait.suspend = suspended s.lane.passageWait := by
        rw [timedWalk.2]
        cases s.lane.passageWait <;> rfl
      dsimp only [tracked]
      by_cases armed : tracker.armed = false
      · rw [if_pos armed]
        exact State.trackerChange_of_unarmed (timedWalk.1 ▸ armed)
      · rw [if_neg armed, State.trackerChange_of_arrival (timedWalk.1 ▸ eq_true_of_ne_false armed) occupied, suspends,
          timedWalk.1, timedConverter]
        simp only [ne_eq, entry_iff]
        rfl
    have delivered : s.deliverClass p .empty = tracked.plateBroken := by
      rw [State.deliverClass_of_arrival arrives, opens, times, tracks]
    rw [delivered]
    have turns (output : BarrierOutput) (brake : Timer) :
        (tracked.setBarrier
          { tracked.barrier with
            output := output, state := .opening, movement := some ⟨.openEnd, tracked.barrier.origin, false⟩, retry := 0,
            unconfirmed := false, brakeTimer := brake, pauseTimer := .stopped, travelTimer := .running 1500
            reDrive := if tracked.barrier.origin = .command then none else tracked.barrier.reDrive }).reportReversed =
          turned output brake := by
      have origins : tracked.barrier.origin = origin := by
        dsimp only [Barrier.origin, origin]
        cases tracked.barrier.movement <;> rfl
      rw [origins]
    refine ⟨fun closing => ?_, fun paused m moves => ?_, State.plateBroken_of_rest⟩
    · rw [State.plateBroken_of_closing closing]
      exact turns .brake (.running 20)
    · rw [State.plateBroken_of_paused paused moves]
      exact if_congr Iff.rfl (turns .driveOpen .stopped) rfl
  case departure =>
    intro quiet stepped home
    have quiets : (s.alightOpen p old).loiterChange p old = quiet := by
      rw [State.alightOpen_of_occupied occupied, State.loiterChange_of_departure departs, Lane.setLoiter_eq]
    have homes {u : State} (atHome : u.lane.tracker.state = .none) : u.trackerHome = home u := by
      have resumes : u.lane.passageWait.resume = resumed u.lane.passageWait := by
        cases u.lane.passageWait <;> rfl
      rw [State.trackerHome_eq atHome, resumes]
      rfl
    rw [State.deliverClass_of_occupied occupied, quiets]
    refine ⟨fun unarmed => State.trackerChange_of_unarmed unarmed, fun armed => ?_⟩
    have departing {t : Tracker} {done : Option (Direction × Bool)} (some : tracker.state ≠ .none)
        (step : tracker.step p false false = (t, done)) :=
      State.trackerChange_of_departure (s := quiet) armed some occupied departs step
    refine ⟨fun entering => ?_, fun crossing entry => ?_, fun crossing far inside => ?_, fun crossing far exited => ?_,
      fun leaving => ?_⟩
    · rw [departing (by simp [entering]) (Tracker.step_empty_of_entering entering false)]
      by_cases entry : atEntry
      · rw [if_pos entry, if_pos (entry_iff.2 entry)]
        exact homes rfl
      · rw [if_neg entry, if_neg (mt entry_iff.1 entry)]
        exact if_neg (by simp [entering])
    · rw [departing (by simp [crossing]) (Tracker.step_empty_of_crossing_entry crossing (entry_iff.2 entry) false)]
      rfl
    · rw [departing (by simp [crossing])
        (Tracker.step_empty_of_crossing_back crossing (mt entry_iff.1 far) inside false)]
      exact congrArg (stepped .entering) inside
    · rw [departing (by simp [crossing])
        (Tracker.step_empty_of_crossing_completes crossing (mt entry_iff.1 far) exited false)]
      rfl
    · by_cases entry : atEntry
      · rw [if_pos entry,
          departing (by simp [leaving]) (Tracker.step_empty_of_leaving_entry leaving (entry_iff.2 entry) false)]
        exact if_neg (by simp [leaving])
      · rw [if_neg entry,
          departing (by simp [leaving]) (Tracker.step_empty_of_leaving leaving (mt entry_iff.1 entry) false)]
        refine homes ?_
        dsimp only [Option.elim]
        rw [State.passageComplete_tracker]
        rfl

end ClassChanges

end Sys2Proof.Machine
end

section
/-! SUPPORT. The clear timer runs on its condition alone (R124, R140): what the condition reads, which commands leave all of that as it
is, and that every other command settles the timer last. -/

namespace Sys2Proof.Machine

variable {s t : State}

/-! ## What the condition reads -/

/-- `t` has all that the clear timer's condition reads, and the clear timer, as `s` has it; SETUP may be left, not entered. -/
@[simp] abbrev KeepsCondition (s t : State) : Prop :=
  t.presence.number = s.presence.number ∧ (t.presence.state = .setup → s.presence.state = .setup) ∧
    t.converter.plateA.isClear = s.converter.plateA.isClear ∧ t.converter.plateB.isClear = s.converter.plateB.isClear ∧
    t.barrier.state = s.barrier.state ∧ t.lane.state = s.lane.state ∧ t.lane.remaining = s.lane.remaining ∧
    t.lane.mode = s.lane.mode ∧ t.lane.settleMark = s.lane.settleMark ∧ t.lane.recovery = s.lane.recovery ∧
    t.lane.clearTimer = s.lane.clearTimer

/-- The condition of `s` holds on in `t`. -/
theorem State.clearCondition_of_kept (kept : KeepsCondition s t) (holds : s.clearCondition = true) :
    t.clearCondition = true := by
  obtain ⟨number, setup, plateA, plateB, barrier, state, remaining, mode, settle, recovery, -⟩ := kept
  have same : t.closingCondition = s.closingCondition ∧ t.recoveryCondition = s.recoveryCondition := by
    simp only [State.closingCondition, State.recoveryCondition, State.alightMode, State.flowMode, State.isVessel,
      State.platesClear, number, plateA, plateB, barrier, state, remaining, mode, settle, recovery, and_self]
  rw [State.clearCondition_iff] at holds ⊢
  rw [same.1, same.2]
  exact holds.imp_left (mt setup)

/-- The lane neither in OPEN nor in FAULT has no use of the clear timer. -/
theorem State.clearCondition_of_rest (notOpened : s.lane.state ≠ .opened) (notFault : s.lane.state ≠ .fault) :
    s.clearCondition = false := by
  simp [State.clearCondition, State.closingCondition, State.recoveryCondition, notOpened, notFault]

namespace State.clearSettled

theorem of_stopped (stopped : t.lane.clearTimer = .stopped) : t.clearSettled := fun _ => stopped

theorem of_kept (h : s.clearSettled) (kept : KeepsCondition s t) : t.clearSettled := by
  intro fails
  have failed : s.clearCondition = false :=
    Bool.eq_false_iff.2 fun holds => Bool.eq_false_iff.1 fails (State.clearCondition_of_kept kept holds)
  obtain ⟨-, -, -, -, -, -, -, -, -, -, timer⟩ := kept
  rw [timer]
  exact h failed

theorem ite {c : Prop} [Decidable c] (ht : t.clearSettled) (hs : s.clearSettled) :
    (if c then t else s).clearSettled := by
  split <;> assumption

end State.clearSettled

/-! ## The operations of the commands that do not settle it -/

@[simp] theorem State.heardAtStation_setup (s : State) (g : Station) :
    (s.heardAtStation g).presence.state = .setup ↔ s.presence.state = .setup := by
  unfold State.heardAtStation
  cases hp : s.presence.state <;> simp [hp]

@[simp] theorem State.peerHeard_state (s : State) (g : Station) :
    (s.peerHeard g).presence.state = s.presence.state := by
  unfold State.peerHeard
  dsimp only
  split <;> simp [Presence.setPeer]

@[simp] theorem State.takeCloseWindow_frame (s : State) : OnlyVessel s s.takeCloseWindow.1 := by
  unfold State.takeCloseWindow
  split <;> simp

@[simp] theorem State.takeSetOnboard_frame (n : Word16) (s : State) : OnlyVessel s (State.takeSetOnboard n s).1 := by
  unfold State.takeSetOnboard
  split <;> simp

@[simp] theorem Barrier.setSwitch_state (b : Barrier) (e : EndId) (active : Bool) :
    (b.setSwitch e active).state = b.state := by
  cases e <;> rfl

/-- A plate that goes on with its conversion is clear as it was. -/
theorem Converter.setPlate_isClear {c : Converter} {p : PlateId} {x : Plate} (same : x.isClear = (c.plate p).isClear) :
    (c.setPlate p x).plateA.isClear = c.plateA.isClear ∧ (c.setPlate p x).plateB.isClear = c.plateB.isClear := by
  cases p
  · exact ⟨same, rfl⟩
  · exact ⟨rfl, same⟩

namespace State.clearSettled

/-- A good frame whose owner leaves the condition alone. -/
theorem heard (h : s.clearSettled) (g : Station) (passes : Bool) {deliver : State → State}
    (kept : ∀ u, KeepsCondition u (deliver u)) : (s.heard g passes deliver).clearSettled := by
  have told : (((s.frameTaken g).heardAtStation g).peerHeard g).clearSettled := h.of_kept (by simp)
  exact .ite h (.ite (.ite (told.of_kept (kept _)) told) (h.of_kept (by simp)))

/-- A request whose meaning leaves the condition alone. -/
theorem takeRequest (h : s.clearSettled) {role : RequestRole} {body : State → State × Reply}
    (kept : KeepsCondition s (body s).1) : (s.takeRequest role body).clearSettled :=
  State.takeRequest_keeps h (fun _ _ ht => ht) fun _ => h.of_kept kept

/-- A plate goes on with its conversion (R147, R148). -/
theorem setPlate (h : s.clearSettled) {p : PlateId} {x : Plate} (same : x.isClear = (s.converter.plate p).isClear) :
    (s.setConverter (s.converter.setPlate p x)).clearSettled :=
  h.of_kept (by simp [Converter.setPlate_isClear same])

/-- A lane that leaves HELD had the timer stopped, and has it so (R136). -/
theorem takeRelease (h : s.clearSettled) : s.takeRelease.1.clearSettled := by
  unfold State.takeRelease
  split
  next held => exact of_stopped (h (State.clearCondition_of_rest (by simp [held]) (by simp [held])))
  next => split <;> exact h.of_kept (by simp)

theorem fullReset (s : State) (straps : Station) : (s.fullReset straps).clearSettled := of_stopped rfl

/-- A stopped timer stays stopped as the time goes. -/
theorem tick (h : s.clearSettled) (same : t.clearCondition = s.clearCondition)
    (ticks : t.lane.clearTimer = s.lane.clearTimer.tick) : t.clearSettled := by
  intro fails
  rw [ticks, h (same ▸ fails)]
  rfl

end State.clearSettled

/-! ## Every command -/

section

open State.clearSettled

/-- A command answers a state with the clear timer on its condition. -/
abbrev SettledAfter (o : Host.Outcome State Fault Refusal) : Prop := AnswersWith State.clearSettled o

theorem execHostSessionEnd_settledAfter (h : s.clearSettled) (straps : Station) :
    SettledAfter (execHostSessionEnd straps s) :=
  .next (.ite (.ite (.ite (fullReset _ straps) h) (.ite h h)) h)

theorem execOwnFrameComplete_settledAfter (h : s.clearSettled) : SettledAfter (execOwnFrameComplete s) := by
  refine .next ?_
  split
  · exact h
  · exact .ite (settleClear_clearSettled _ _) h

theorem execTransmitStart_settledAfter (h : s.clearSettled) (slots : Nat) : SettledAfter (execTransmitStart slots s) := by
  refine .next ?_
  split
  · exact h
  · exact .ite (h.of_kept (by simp)) h

theorem execReadbackFault_settledAfter (h : s.clearSettled) : SettledAfter (execReadbackFault s) := by
  refine .next ?_
  split
  · exact h
  · exact .ite (settleClear_clearSettled _ _) h

theorem execKeptDemandStart_settledAfter (h : s.clearSettled) : SettledAfter (execKeptDemandStart s) := by
  refine .next ?_
  split
  · exact .ite (h.of_kept (by simp)) h
  · exact h

theorem execRequestFailsMessageCheck_settledAfter (h : s.clearSettled) (m : List Byte) :
    SettledAfter (execRequestFailsMessageCheck m s) := by
  refine .next ?_
  split
  · split <;> exact h
  · exact h

theorem execLoiterTimerExpiry_settledAfter (h : s.clearSettled) (p : PlateId) :
    SettledAfter (execLoiterTimerExpiry p s) :=
  .next (.ite (h.of_kept (by simp [Lane.setLoiter_eq])) h)

theorem execEndSwitchInactive_settledAfter (h : s.clearSettled) (e : EndId) :
    SettledAfter (execEndSwitchInactive e s) :=
  .next (.ite (.ite (h.of_kept (by simp)) (h.of_kept (by simp))) h)

theorem execZeroPhaseEnd_settledAfter (h : s.clearSettled) (offset : Int) : SettledAfter (execZeroPhaseEnd offset s) :=
  .phaseEnd _ h fun _ => .ite (h.setPlate rfl) (settleClear_clearSettled _ _)

theorem execIntegratePhaseEnd_settledAfter (h : s.clearSettled) : SettledAfter (execIntegratePhaseEnd s) :=
  .phaseEnd _ h fun _ => h.setPlate rfl

/-- A frame of another station: CLAIM, TALLY and a frame of no known kind leave the condition alone. -/
theorem exec_frame_settledAfter (c : Instr) (hc : isFrameHeard c = true) (h : s.clearSettled) : SettledAfter (exec c s) := by
  cases c with
  | statusFrame | offerFrame | closeFrame | grantFrame | ticketFrame | egressFrame | egressEndFrame =>
    exact .next (settleClear_clearSettled _ _)
  | claimFrame g w b => exact .next (h.heard g _ fun u => by split <;> simp)
  | tallyFrame g w b => exact .next (h.heard g _ fun u => by split <;> simp)
  | unknownKindFrame g k w b => exact .next (.ite (h.heard g false fun u => by simp) h)
  | _ => cases hc

/-- Every command but a byte of the host port keeps the clear timer on its condition. -/
theorem exec_settledAfter_of_ne_byte (c : Instr) (hc : ∀ b, c ≠ .hostByteCompleted b) (h : s.clearSettled) :
    SettledAfter (exec c s) := by
  by_cases hf : isFrameHeard c = true
  · exact exec_frame_settledAfter c hf h
  cases c with
  | unknownKindFrame | statusFrame | offerFrame | closeFrame | claimFrame | grantFrame | ticketFrame | tallyFrame
  | egressFrame | egressEndFrame => exact absurd rfl hf
  | start | laneRestart | clearFault | egressEnd | present _ _ _ | cancel _ | hold | openWindow | setLaneMode _
  | lostArbitration => exact .next (settleClear_clearSettled _ _)
  | silenceTimerExpiry _ | orphanTimerExpiry | claimWaitTimerExpiry | passageWaitExpiry | clearTimerExpiry | trackerArm
  | stall | travelTimerExpiry | pauseTimerExpiry | pendingCloseTaken | reDriveStart =>
    exact .next (.ite (settleClear_clearSettled _ _) h)
  | endSwitchActive _ | egressInputActive => exact .next (.ite h (settleClear_clearSettled _ _))
  | rundownCrossing r => exact .phaseEnd _ h fun _ => .ite (settleClear_clearSettled _ _) h
  | rundownOverrange => exact .phaseEnd _ h fun _ => settleClear_clearSettled _ _
  | ownFrameComplete => exact execOwnFrameComplete_settledAfter h
  | readbackFault => exact execReadbackFault_settledAfter h
  | zeroPhaseEnd offset => exact execZeroPhaseEnd_settledAfter h offset
  | integratePhaseEnd => exact execIntegratePhaseEnd_settledAfter h
  | fullReset straps => exact .next (fullReset s straps)
  | hostSessionEnd straps => exact execHostSessionEnd_settledAfter h straps
  | millisecondCountAdvance => exact .next (h.tick rfl rfl)
  | identify | reset | configure _ | lookup _ | query _ | readEvent | peekEvent | setMask _ | closeWindow | setOnboard _ =>
    exact .next (h.takeRequest (by simp))
  | release => exact .next (State.takeRequest_keeps h (fun _ _ ht => ht) fun _ => h.takeRelease)
  | replyReady | lineIdle | openingFlagFound | frameAbortHeard | badFrame _ | selftestEnd _ | brakeTimerExpiry
  | hselAsserted | listSecondTimerExpiry =>
    exact .next (.ite h h)
  | selftest => exact .next (.ite (.ite h h) h)
  | lineBusy | egressInputInactive => exact .next h
  | listenTimerExpiry | isolationTimerExpiry | rollTimerExpiry | tallyTimerExpiry | claimRepeatTimerExpiry =>
    exact .next (.ite (h.of_kept (by simp)) h)
  | transmitStart slots => exact execTransmitStart_settledAfter h slots
  | keptDemandStart => exact execKeptDemandStart_settledAfter h
  | loiterTimerExpiry p => exact execLoiterTimerExpiry_settledAfter h p
  | endSwitchInactive e => exact execEndSwitchInactive_settledAfter h e
  | hostByteCompleted b => exact absurd rfl (hc b)
  | requestFailsMessageCheck m => exact execRequestFailsMessageCheck_settledAfter h m

theorem exec_settledAfter (c : Instr) (h : s.clearSettled) : SettledAfter (exec c s) := by
  cases c with
  | hostByteCompleted b =>
    exact execHostByteCompleted_answersWith (P := State.clearSettled) b (fun _ => id) (fun _ _ => id)
      (fun _ c _ hr => exec_settledAfter_of_ne_byte c (requestOf_ne_byte hr)) h
  | _ => exact exec_settledAfter_of_ne_byte _ (by simp) h

end

/-- Settles O7: every command settles the clear timer last, or leaves the condition and the timer alone. -/
theorem clearTimerStaysOnItsCondition : Obligations.ClearTimerStaysOnItsCondition := by
  intro s t h hstep
  exact AnswersWith.of_step (Q := State.clearSettled) hstep (fun _ => h) fun c _ _ => exec_settledAfter c h

end Sys2Proof.Machine
end

section
/-! SUPPORT. The ends of a conversion's phases (R146 to R155): the command of each phase for the plate in turn, what a plate makes of
a reading and of a bad conversion, and a plate's fault at the lane and at the barrier driver. -/

namespace Sys2Proof.Machine

section Conversions

variable {s : State} {p : PlateId}

/-! ## The commands of the plate in turn (R146 to R149) -/

theorem Converter.inPhase_of_turn {c : Converter} {phase : Phase} (turn : c.turn = some p)
    (now : (c.plate p).phase = phase) : c.inPhase phase = some p := by
  simp [Converter.inPhase, turn, now]

theorem exec_zeroPhaseEnd (turn : s.converter.turn = some p) (zero : (s.converter.plate p).phase = .zero)
    (offset : Int) :
    exec (.zeroPhaseEnd offset) s = .next
      (if -256 ≤ offset ∧ offset ≤ 256 then
        s.setConverter (s.converter.setPlate p
          { s.converter.plate p with phase := .integrate, ticks := 0, offset := offset })
      else settleClear s (s.badConversion p .zeroFault)) := by
  change execZeroPhaseEnd offset s = _
  rw [execZeroPhaseEnd, Converter.inPhase_of_turn turn zero]
  rfl

theorem exec_integratePhaseEnd (turn : s.converter.turn = some p)
    (integrate : (s.converter.plate p).phase = .integrate) :
    exec .integratePhaseEnd s = .next (s.setConverter
      (s.converter.setPlate p { s.converter.plate p with phase := .rundown, ticks := 0 })) := by
  change execIntegratePhaseEnd s = _
  rw [execIntegratePhaseEnd, Converter.inPhase_of_turn turn integrate]

theorem exec_rundownOverrange (turn : s.converter.turn = some p)
    (rundown : (s.converter.plate p).phase = .rundown) :
    exec .rundownOverrange s = .next (settleClear s (s.badConversion p .overrange)) := by
  change execRundownOverrange s = _
  rw [execRundownOverrange, Converter.inPhase_of_turn turn rundown]

theorem exec_rundownCrossing (turn : s.converter.turn = some p) (rundown : (s.converter.plate p).phase = .rundown)
    {r : Nat} (inTime : r < 2 * s.ticksN) :
    exec (.rundownCrossing r) s = .next (settleClear s (s.goodConversion p (s.config.reading r))) := by
  change execRundownCrossing r s = _
  rw [execRundownCrossing, Converter.inPhase_of_turn turn rundown]
  exact congrArg Host.Outcome.next (if_pos inTime)

/-! ## The end of a conversion (R146) -/

/-- The conversion of plate p has ended with the record q: the plate waits, and the other one is in turn. -/
def State.conversionEnded (s : State) (p : PlateId) (q : Plate) : State :=
  s.setConverter ((s.converter.setPlate p q).endConversion p)

@[simp] theorem State.conversionEnded_plate (s : State) (p : PlateId) (q : Plate) :
    (s.conversionEnded p q).converter.plate p = { q with phase := .waiting, ticks := 0 } := by
  cases p <;> rfl

/-! ## A reading at the plate (R149 to R152) -/

section Reading

variable {q : Plate} {c : ConfigRecord} {reading : Nat}

/-- The plate with a GOOD reading, before the class is looked at (R149, R153). -/
def Plate.read (q : Plate) (reading : Nat) : Plate := { q with reading := reading, result := .good, bad := 0 }

/-- A faulted plate takes the reading alone (R155). -/
theorem Plate.takeGood_of_fault (fault : q.fault = true) : q.takeGood c reading = q.read reading :=
  if_pos fault

/-- A plate with its fault flag clear debounces the reading's class and then counts toward settling. -/
theorem Plate.takeGood_of_sound (sound : q.fault = false) :
    q.takeGood c reading =
      ((q.read reading).debounce (c.readingClass q.cls reading)).countSettle (c.readingClass q.cls reading) :=
  if_neg (ne_true_of_eq_false sound)

variable {k : PlateClass}

theorem Plate.debounce_of_same (same : k = q.cls) : q.debounce k = { q with candidate := none, candidateRun := 0 } :=
  if_pos same

theorem Plate.debounce_of_first (other : k ≠ q.cls) (first : q.candidate ≠ some k) :
    q.debounce k = { q with candidate := some k, candidateRun := 1 } :=
  (if_neg other).trans (if_neg first)

theorem Plate.debounce_of_second (other : k ≠ q.cls) (second : q.candidate = some k) :
    q.debounce k = { q with cls := k, candidate := none, candidateRun := 0 } :=
  (if_neg other).trans (if_pos second)

/-- A reading that leaves the class as it was brings the settled notice alone. -/
theorem State.goodConversion_of_kept (taken : (s.converter.plate p).takeGood s.config reading = q)
    (kept : q.cls = (s.converter.plate p).cls) :
    s.goodConversion p reading = (s.conversionEnded p q).settleCheck := by
  subst taken
  exact congrArg State.settleCheck (if_pos kept)

/-- A reading that changes the class has the change delivered before the settled notice. -/
theorem State.goodConversion_of_change (taken : (s.converter.plate p).takeGood s.config reading = q)
    (changes : q.cls ≠ (s.converter.plate p).cls) :
    s.goodConversion p reading =
      ((s.conversionEnded p q).deliverClass p (s.converter.plate p).cls).settleCheck := by
  subst taken
  exact congrArg State.settleCheck (if_neg changes)

end Reading

/-! ## A bad conversion (R153, R154) -/

/-- The plate with a bad conversion counted (R153). -/
def Plate.missed (q : Plate) (kind : ConversionResult) : Plate := { q with result := kind, bad := min (q.bad + 1) 255 }

/-- The plate faulted (R154). -/
def Plate.faulted (q : Plate) : Plate := { q with fault := true, cls := .occupied, candidate := none, candidateRun := 0 }

/-- The bad count, which stops at 255 (R153), comes to 3 from 2 alone. -/
theorem badCount_eq_three_iff {n : Nat} : min (n + 1) 255 = 3 ↔ n = 2 := by omega

theorem State.badConversion_of_borne {kind : ConversionResult}
    (borne : (s.converter.plate p).bad ≠ 2 ∨ (s.converter.plate p).fault = true) :
    s.badConversion p kind = s.conversionEnded p ((s.converter.plate p).missed kind) := by
  refine if_neg fun ⟨third, sound⟩ => ?_
  rcases borne with notThird | fault
  · exact notThird (badCount_eq_three_iff.1 third)
  · simp [fault] at sound

theorem State.badConversion_of_third {kind : ConversionResult} (third : (s.converter.plate p).bad = 2)
    (sound : (s.converter.plate p).fault = false) :
    s.badConversion p kind = (s.conversionEnded p ((s.converter.plate p).missed kind)).plateFault p kind :=
  if_pos ⟨badCount_eq_three_iff.2 third, by simp [sound]⟩

/-! ## The lane as a plate faults (R127, R133, R154) -/

/-- The tracker unarmed and the plate's loiter timer stopped. -/
def State.plateQuieted (s : State) (p : PlateId) : State :=
  s.unarmTracker.setLane (s.unarmTracker.lane.setLoiter p .stopped)

/-- The class change of a faulted plate delivered, if OCCUPIED is one from `old`. -/
def State.faultDelivered (s : State) (p : PlateId) (old : PlateClass) : State :=
  if old = .occupied then s.plateQuieted p else (s.plateQuieted p).deliverClass p old

/-- PLATE FAULT raised, and the fault reported to the lane. -/
def State.faultRaised (s : State) (p : PlateId) (code : Nat) : State :=
  (s.raise .plateFault (plateCode p) code).reportFault (plateCause p)

/-- A plate that faults as its conversion ends: the lane quieted, the class change, PLATE FAULT and the lane's fault (log
entry 5). -/
theorem State.plateFault_conversionEnded (s : State) (p : PlateId) (q : Plate) (kind : ConversionResult) :
    (s.conversionEnded p q).plateFault p kind =
      ((s.conversionEnded p q.faulted).faultDelivered p q.cls).faultRaised p (badCode kind) := by
  cases p <;> rfl

theorem State.unarmTracker_eq (s : State) :
    s.unarmTracker =
      let unarmed := s.setLane
        { s.lane with tracker := s.lane.tracker.disarmed, passageWait := s.lane.passageWait.resume }
      if s.presence.number ≠ 0 ∧ s.view.state = .closed ∧ s.view.tallyPending = false ∧ s.lane.remaining = 0 then
        (unarmed.queueKind .tally).setView { s.view with tallyPending := true }
      else unarmed :=
  State.trackerHome_eq (s := s.withTracker s.lane.tracker.disarmed) rfl

theorem State.plateQuieted_eq (s : State) (p : PlateId) :
    s.plateQuieted p =
      let unarmed := s.setLane
        { s.lane with tracker := s.lane.tracker.disarmed, passageWait := s.lane.passageWait.resume }
      (if s.presence.number ≠ 0 ∧ s.view.state = .closed ∧ s.view.tallyPending = false ∧ s.lane.remaining = 0 then
        (unarmed.queueKind .tally).setView { s.view with tallyPending := true }
      else unarmed).setLane
        { unarmed.lane with
          loiterA := if p = .a then .stopped else s.lane.loiterA
          loiterB := if p = .b then .stopped else s.lane.loiterB } := by
  have lane : s.unarmTracker.lane =
      { s.lane with tracker := s.lane.tracker.disarmed, passageWait := s.lane.passageWait.resume } := by
    simp [State.unarmTracker, Tracker.disarmed]
  rw [State.plateQuieted, lane, State.unarmTracker_eq, Lane.setLoiter_eq]
  rfl

theorem State.plateQuieted_leaves (s : State) (p : PlateId) :
    OnlyDesk s (s.plateQuieted p) ∧ (s.plateQuieted p).admission = s.admission ∧
      (s.plateQuieted p).events = s.events ∧ (s.plateQuieted p).lane.tracker = s.lane.tracker.disarmed ∧
      (s.plateQuieted p).lane.loiter p = .stopped ∧ (s.plateQuieted p).lane.faultCause = s.lane.faultCause ∧
      (s.plateQuieted p).lane.state = s.lane.state := by
  have stopped : (s.plateQuieted p).lane.loiter p = .stopped := by cases p <;> rfl
  refine ⟨?_, ?_, ?_, ?_, stopped, ?_, ?_⟩
  all_goals simp [State.plateQuieted, State.unarmTracker, Lane.setLoiter_eq, Tracker.disarmed]

/-! ## The flap as a plate faults (R144, R154, R163, R166) -/

/-- `t` differs from `s` in the barrier driver and in the lane's state and clear timer alone, with EGRESS neither entered nor
left. -/
def State.OnlyFlap (s t : State) : Prop :=
  ∃ (b : Barrier) (l : LaneState) (c : Timer),
    t = (s.setBarrier b).setLane { s.lane with state := l, clearTimer := c } ∧ (l = .egress ↔ s.lane.state = .egress)

namespace State.OnlyFlap

variable {t u : State}

theorem refl (s : State) : s.OnlyFlap s := ⟨s.barrier, s.lane.state, s.lane.clearTimer, rfl, Iff.rfl⟩

theorem trans (h : s.OnlyFlap t) (h' : t.OnlyFlap u) : s.OnlyFlap u := by
  obtain ⟨_, _, _, rfl, egress⟩ := h
  obtain ⟨b, l, c, rfl, egress'⟩ := h'
  exact ⟨b, l, c, rfl, egress'.trans egress⟩

theorem setBarrier (h : s.OnlyFlap t) (b : Barrier) : s.OnlyFlap (t.setBarrier b) :=
  h.trans ⟨b, t.lane.state, t.lane.clearTimer, rfl, Iff.rfl⟩

/-- A lane that opens is in OPEN at the end of the movement. -/
theorem reportOpen (h : s.OnlyFlap t) (opening : t.lane.state = .opening) : s.OnlyFlap t.reportOpen :=
  h.trans ⟨t.barrier, .opened, t.lane.clearTimer, State.reportOpen_of_opening opening, by simp [opening]⟩

theorem reachOpen (h : s.OnlyFlap t) (opening : t.lane.state = .opening) : s.OnlyFlap (t.reachEnd .openEnd) :=
  (h.setBarrier _).reportOpen opening

theorem openCommand (h : s.OnlyFlap t) (opening : t.lane.state = .opening) : s.OnlyFlap (t.openCommand false) := by
  have taken : s.OnlyFlap t.commandTaken := h.setBarrier _
  have begun : s.OnlyFlap t.commandTaken.beginOpen := by
    unfold State.beginOpen
    split
    · exact taken.reachOpen opening
    · exact taken.setBarrier _
  have turned : s.OnlyFlap t.commandTaken.turnOpen := by
    unfold State.turnOpen
    split
    · exact taken.reachOpen opening
    · exact taken.setBarrier _
  unfold State.openCommand
  cases t.barrier.state
  case opening => exact taken.setBarrier _
  case opened => exact taken.reportOpen opening
  case closing => exact turned
  case halted => exact h
  all_goals exact begun

theorem alightOpen (h : s.OnlyFlap t) (p : PlateId) (old : PlateClass) : s.OnlyFlap (t.alightOpen p old) := by
  unfold State.alightOpen
  split
  next due =>
    obtain ⟨-, -, -, -, idle⟩ := due
    have opens : t.OnlyFlap (t.setLane { t.lane with state := .opening }) :=
      ⟨t.barrier, .opening, t.lane.clearTimer, rfl, by simp [idle]⟩
    exact (h.trans opens).openCommand rfl
  next => exact h

theorem reportReversed (h : s.OnlyFlap t) : s.OnlyFlap t.reportReversed := by
  by_cases closing : t.lane.state = .closing
  · rw [State.reportReversed_of_closing closing]
    exact h.trans ⟨t.barrier, .opened, t.lane.clearTimer, rfl, by simp [closing]⟩
  by_cases recovering : t.recovering
  · rw [State.reportReversed_of_recovering recovering]
    exact h.trans ⟨t.barrier, t.lane.state, _, rfl, Iff.rfl⟩
  · rwa [State.reportReversed_of_other closing recovering]

theorem plateBroken (h : s.OnlyFlap t) : s.OnlyFlap t.plateBroken := by
  unfold State.plateBroken
  split
  · exact (h.setBarrier _).reportReversed
  · split
    · exact (h.setBarrier _).reportReversed
    · exact h

end State.OnlyFlap

/-- With its fault flag set and the tracker unarmed, a plate that becomes OCCUPIED from EMPTY moves the flap alone, and from
MULTIPLE nothing. -/
theorem State.deliverClass_of_fault {old : PlateClass} (fault : (s.converter.plate p).fault = true)
    (occupied : (s.converter.plate p).cls = .occupied) (unarmed : s.lane.tracker.armed = false) :
    s.deliverClass p old = if old = .empty then (s.alightOpen p .empty).plateBroken else s := by
  have arrives : (s.converter.plate p).cls ≠ .empty := by simp [occupied]
  by_cases empty : old = .empty
  · subst empty
    have converter : (s.alightOpen p .empty).converter = s.converter := by simp
    have tracker : (s.alightOpen p .empty).lane.tracker = s.lane.tracker := by simp
    rw [if_pos rfl, State.deliverClass_of_arrival arrives, State.loiterChange_of_arrival (converter ▸ arrives),
      if_pos (.inl (converter ▸ fault)), State.trackerChange_of_unarmed (tracker ▸ unarmed)]
  · rw [if_neg empty, State.deliverClass_of_occupied empty, State.alightOpen_of_occupied empty,
      State.loiterChange_of_occupied empty arrives, State.trackerChange_of_unarmed unarmed]

theorem State.faultDelivered_eq {old : PlateClass} (fault : (s.converter.plate p).fault = true)
    (occupied : (s.converter.plate p).cls = .occupied) :
    s.faultDelivered p old =
      if old = .empty then ((s.plateQuieted p).alightOpen p .empty).plateBroken else s.plateQuieted p := by
  have converter : (s.plateQuieted p).converter = s.converter := by simp [s.plateQuieted_leaves p]
  have unarmed : (s.plateQuieted p).lane.tracker.armed = false := by
    simp [s.plateQuieted_leaves p, Tracker.disarmed]
  have delivered := State.deliverClass_of_fault (old := old) (converter ▸ fault) (converter ▸ occupied) unarmed
  rw [State.faultDelivered, delivered]
  split
  next same => rw [same, if_neg (by decide)]
  next => rfl

theorem State.faultDelivered_leaves {old : PlateClass} (fault : (s.converter.plate p).fault = true)
    (occupied : (s.converter.plate p).cls = .occupied) :
    (s.faultDelivered p old).presence = s.presence ∧ (s.faultDelivered p old).converter = s.converter ∧
      (s.faultDelivered p old).admission = s.admission ∧ (s.faultDelivered p old).events = s.events ∧
      (s.faultDelivered p old).lane.tracker = s.lane.tracker.disarmed ∧
      (s.faultDelivered p old).lane.loiter p = .stopped ∧
      (s.faultDelivered p old).lane.faultCause = s.lane.faultCause ∧
      ((s.faultDelivered p old).lane.state = .egress ↔ s.lane.state = .egress) := by
  have moves : (s.plateQuieted p).OnlyFlap (s.faultDelivered p old) := by
    rw [State.faultDelivered_eq fault occupied]
    split
    · exact ((State.OnlyFlap.refl _).alightOpen _ _).plateBroken
    · exact .refl _
  obtain ⟨b, l, c, told, egress⟩ := moves
  obtain ⟨desk, admission, events, tracker, loiter, faultCause, state⟩ := s.plateQuieted_leaves p
  have stopped : (s.faultDelivered p old).lane.loiter p = .stopped := by
    rw [← loiter, told]
    cases p <;> rfl
  refine ⟨?_, ?_, ?_, ?_, ?_, stopped, ?_, ?_⟩
  all_goals simp [told, egress, desk, admission, events, tracker, faultCause, state]

/-! ## The drive as a plate faults (R159, R163, R166) -/

/-- DRIVE_CLOSE is given in CLOSING alone (R159). -/
def Barrier.closesInClosing (b : Barrier) : Prop := b.output = .driveClose → b.state = .closing

@[simp] theorem State.reachEnd_output (s : State) (e : EndId) : (s.reachEnd e).barrier.output = .off := by
  simp [State.reachEnd, Barrier.atEnd]

theorem State.beginOpen_output (s : State) : s.beginOpen.barrier.output ≠ .driveClose := by
  unfold State.beginOpen
  split <;> simp [Barrier.driveOpen]

theorem State.turnOpen_output (s : State) : s.turnOpen.barrier.output ≠ .driveClose := by
  unfold State.turnOpen
  split <;> simp [Barrier.turn]

theorem State.openCommand_closesInClosing (h : s.barrier.closesInClosing) :
    (s.openCommand false).barrier.closesInClosing := by
  unfold State.openCommand
  cases s.barrier.state
  case opening => exact h
  case opened => simpa [Barrier.closesInClosing, State.commandTaken] using h
  case closing => exact fun drives => absurd drives (State.turnOpen_output _)
  case halted => exact h
  all_goals exact fun drives => absurd drives (State.beginOpen_output _)

theorem State.alightOpen_closesInClosing (h : s.barrier.closesInClosing) (p : PlateId) (old : PlateClass) :
    (s.alightOpen p old).barrier.closesInClosing := by
  unfold State.alightOpen
  split
  · exact State.openCommand_closesInClosing h
  · exact h

theorem State.plateBroken_output (h : s.barrier.closesInClosing) : s.plateBroken.barrier.output ≠ .driveClose := by
  unfold State.plateBroken
  split
  next => simp [Barrier.reversed, Barrier.turn]
  next notClosing =>
    split
    · simp [Barrier.unpaused, Barrier.driveOpen]
    · exact mt h notClosing

/-- A safe barrier closes over two plates classed EMPTY alone. -/
theorem State.barrierSafe.output_of_occupied (safe : s.barrierSafe) (occupied : (s.converter.plate p).cls ≠ .empty) :
    s.barrier.output ≠ .driveClose := by
  obtain ⟨closing, clear, -⟩ := safe
  intro drives
  have condition := clear (closing drives)
  rw [State.plateCondition, Bool.and_eq_true] at condition
  exact occupied (State.platesClear_iff.1 condition.1 p).1

theorem State.faultDelivered_output {old : PlateClass} (fault : (s.converter.plate p).fault = true)
    (occupied : (s.converter.plate p).cls = .occupied) (closes : s.barrier.closesInClosing)
    (away : old ≠ .empty → s.barrier.output ≠ .driveClose) :
    (s.faultDelivered p old).barrier.output ≠ .driveClose := by
  have barrier : (s.plateQuieted p).barrier = s.barrier := by simp [s.plateQuieted_leaves p]
  rw [State.faultDelivered_eq fault occupied]
  split
  next => exact State.plateBroken_output (State.alightOpen_closesInClosing (barrier ▸ closes) _ _)
  next notEmpty => exact barrier ▸ away notEmpty

/-! ## The lane takes the fault (R103, R138) -/

section Report

variable {cause : FaultCause}

/-- Entry into FAULT lets no pending hold become effective: the lane is not in IDLE as the presentation is stopped. -/
theorem State.enterFault_lane (s : State) (cause : FaultCause) :
    (s.enterFault cause).lane = { s.lane with state := .fault, faultCause := some cause, clearTimer := .stopped } := by
  rw [State.enterFault_eq]
  dsimp only
  split
  · simp
  · rcases State.stopPresentation_mayHold (s.setLane
      { s.lane with state := .fault, faultCause := some cause, clearTimer := .stopped }) .laneUnavailable
      with same | ⟨-, idle, -⟩
    · simpa using same
    · simp at idle

theorem State.reportFault_state (notEgress : s.lane.state ≠ .egress) : (s.reportFault cause).lane.state = .fault := by
  by_cases held : s.lane.state = .held
  · rw [State.reportFault_of_held cause held, State.enterFault_lane]
  by_cases fault : s.lane.state = .fault
  · simp [State.reportFault_of_fault cause fault, fault]
  · rw [State.reportFault_of_running cause held fault notEgress, State.enterFault_lane]

@[simp] theorem State.reportFault_leaves (s : State) (cause : FaultCause) :
    (s.reportFault cause).lane.tracker = s.lane.tracker ∧ (s.reportFault cause).lane.loiterA = s.lane.loiterA ∧
      (s.reportFault cause).lane.loiterB = s.lane.loiterB := by
  unfold State.reportFault
  split <;> simp [State.enterFault_lane]

/-- With no presentation to stop, entry into FAULT raises LANE FAULT alone. -/
theorem State.enterFault_events (alone : s.presence.number = 0 ∨ s.admission.record = none) :
    (s.enterFault cause).events =
      s.events.raise .laneFault (word16 cause.code) (word16 s.lane.state.code) (word16 0) := by
  rw [State.enterFault_eq]
  dsimp only
  split
  next => simp [State.raise]
  next gate =>
    have none := alone.resolve_left gate
    rw [State.stopPresentation_of_none (by simpa using none)]
    simp [State.raise]

theorem State.reportFault_events (alone : s.presence.number = 0 ∨ s.admission.record = none) :
    (s.reportFault cause).events =
      s.events.raise .laneFault (word16 cause.code) (word16 s.lane.state.code) (word16 0) := by
  by_cases held : s.lane.state = .held
  · rw [State.reportFault_of_held cause held]
    exact State.enterFault_events alone
  by_cases fault : s.lane.state = .fault
  · rw [State.reportFault_of_fault cause fault, fault]
    rfl
  by_cases egress : s.lane.state = .egress
  · rw [State.reportFault_of_egress cause egress, egress]
    rfl
  · rw [State.reportFault_of_running cause held fault egress]
    exact State.enterFault_events alone

@[simp] theorem settleClear_lane (s t : State) :
    (settleClear s t).lane.state = t.lane.state ∧ (settleClear s t).lane.tracker = t.lane.tracker ∧
      (settleClear s t).lane.faultCause = t.lane.faultCause ∧ (settleClear s t).lane.loiterA = t.lane.loiterA ∧
      (settleClear s t).lane.loiterB = t.lane.loiterB := by
  unfold settleClear
  split <;> [split; skip] <;> simp

theorem Lane.loiter_congr {l m : Lane} (a : m.loiterA = l.loiterA) (b : m.loiterB = l.loiterB) (p : PlateId) :
    m.loiter p = l.loiter p := by
  cases p
  · exact a
  · exact b

end Report

variable {code : Nat}

@[simp] theorem State.faultRaised_leaves (s : State) (p : PlateId) (code : Nat) :
    (s.faultRaised p code).converter = s.converter ∧ (s.faultRaised p code).barrier = s.barrier ∧
      (s.faultRaised p code).lane.tracker = s.lane.tracker ∧
      (s.faultRaised p code).lane.loiterA = s.lane.loiterA ∧ (s.faultRaised p code).lane.loiterB = s.lane.loiterB := by
  simp [State.faultRaised]

theorem State.faultRaised_state (notEgress : s.lane.state ≠ .egress) : (s.faultRaised p code).lane.state = .fault :=
  State.reportFault_state notEgress

/-- In EGRESS the fault is recorded alone, a first one kept. -/
theorem State.faultRaised_of_egress (egress : s.lane.state = .egress) :
    (s.faultRaised p code).lane.state = .egress ∧
      (s.faultRaised p code).lane.faultCause = some (s.lane.faultCause.getD (plateCause p)) := by
  have raised : (s.raise .plateFault (plateCode p) code).lane.state = .egress := egress
  rw [State.faultRaised, State.reportFault_of_egress _ raised]
  exact ⟨egress, rfl⟩

theorem State.faultRaised_events (alone : s.presence.number = 0 ∨ s.admission.record = none) :
    (s.faultRaised p code).events =
      (s.events.raise .plateFault (word16 (plateCode p)) (word16 code) (word16 0)).raise .laneFault
        (word16 (plateCause p).code) (word16 s.lane.state.code) (word16 0) :=
  State.reportFault_events alone

/-! ## A plate's fault from the lane's quieting to LANE FAULT (R154) -/

section PlateFault

variable {old : PlateClass} (fault : (s.converter.plate p).fault = true)
  (occupied : (s.converter.plate p).cls = .occupied)

include fault occupied

/-- The fault keeps the plates, unarms the tracker in NONE and stops the plate's loiter timer. -/
theorem State.plateFault_leaves :
    ((s.faultDelivered p old).faultRaised p code).converter = s.converter ∧
      ((s.faultDelivered p old).faultRaised p code).lane.tracker.armed = false ∧
      ((s.faultDelivered p old).faultRaised p code).lane.tracker.state = .none ∧
      ((s.faultDelivered p old).faultRaised p code).lane.loiter p = .stopped := by
  obtain ⟨-, converter, -, -, tracker, loiter, -, -⟩ := State.faultDelivered_leaves (old := old) fault occupied
  refine ⟨by simp [converter], by simp [tracker, Tracker.disarmed], by simp [tracker, Tracker.disarmed], ?_⟩
  rw [← loiter]
  exact Lane.loiter_congr (by simp) (by simp) p

theorem State.plateFault_state (notEgress : s.lane.state ≠ .egress) :
    ((s.faultDelivered p old).faultRaised p code).lane.state = .fault := by
  obtain ⟨-, -, -, -, -, -, -, egress⟩ := State.faultDelivered_leaves (old := old) fault occupied
  exact State.faultRaised_state (mt egress.1 notEgress)

theorem State.plateFault_of_egress (inEgress : s.lane.state = .egress) :
    ((s.faultDelivered p old).faultRaised p code).lane.state = .egress ∧
      ((s.faultDelivered p old).faultRaised p code).lane.faultCause =
        some (s.lane.faultCause.getD (plateCause p)) := by
  obtain ⟨-, -, -, -, -, -, faultCause, egress⟩ := State.faultDelivered_leaves (old := old) fault occupied
  rw [← faultCause]
  exact State.faultRaised_of_egress (egress.2 inEgress)

/-- With no presentation to stop the fault raises PLATE FAULT and LANE FAULT alone. -/
theorem State.plateFault_events (alone : s.presence.number = 0 ∨ s.admission.record = none) :
    ((s.faultDelivered p old).faultRaised p code).events =
      (s.events.raise .plateFault (word16 (plateCode p)) (word16 code) (word16 0)).raise .laneFault
        (word16 (plateCause p).code) (word16 (s.faultDelivered p old).lane.state.code) (word16 0) := by
  obtain ⟨presence, -, admission, events, -, -, -, -⟩ := State.faultDelivered_leaves (old := old) fault occupied
  rw [← events]
  exact State.faultRaised_events (by rwa [presence, admission])

end PlateFault

end Conversions

/-- Settles O56: each phase's command for the plate in turn; a reading by the class the debounce comes to; a bad conversion by the
bad count, and the third one through the lane as the fault leaves it. -/
theorem conversionsEnd : Obligations.ConversionsEnd := by
  intro s p turn plate other turned resumed bad
  have ended (q : Plate) : s.conversionEnded p q = turned q := by cases p <;> rfl
  have bad_of {kind : ConversionResult} {code : Nat} {c : Instr} (coded : badCode kind = code)
      (command : exec c s = .next (settleClear s (s.badConversion p kind))) : bad kind code c := by
    subst coded
    refine ⟨fun borne => ?borne, fun third sound => ?third⟩
    case borne =>
      rw [command, State.badConversion_of_borne borne, ended]
      rfl
    case third =>
      intro faulted unarmed finished quiet told number t
      have faults : s.conversionEnded p (plate.missed kind).faulted = faulted := ended _
      have fault : (faulted.converter.plate p).fault = true := by simp [← faults, Plate.faulted]
      have occupied : (faulted.converter.plate p).cls = .occupied := by simp [← faults, Plate.faulted]
      have quiets : faulted.plateQuieted p = quiet := by
        have resumes : faulted.lane.passageWait.resume = resumed s.lane.passageWait := by
          change s.lane.passageWait.resume = _
          cases s.lane.passageWait <;> rfl
        rw [State.plateQuieted_eq, resumes]
        rfl
      have delivers : faulted.faultDelivered p plate.cls = told := by
        rw [State.faultDelivered, quiets]
      have numbered : plateCode p = number ∧ (plateCause p).code = number := by cases p <;> exact ⟨rfl, rfl⟩
      have ends : t = settleClear s (told.faultRaised p (badCode kind)) := by cases p <;> rfl
      have settles : settleClear s (s.badConversion p kind) = t := by
        rw [State.badConversion_of_third third sound, State.plateFault_conversionEnded, faults, ends, ← delivers]
        rfl
      obtain ⟨converter, armed, none, loiter⟩ :=
        State.plateFault_leaves (old := plate.cls) (code := badCode kind) fault occupied
      rw [← delivers] at ends
      refine ⟨command.trans (congrArg _ settles), by simpa [ends] using converter, by simpa [ends] using armed,
        by simpa [ends] using none, ?_, fun notEgress => ?_, fun safe => ?_, fun inEgress => ?_, fun alone => ?_⟩
      · rw [← loiter, ends]
        exact Lane.loiter_congr (by simp) (by simp) p
      · simpa [ends] using State.plateFault_state fault occupied notEgress
      · have closes : faulted.barrier.closesInClosing := safe.1
        simpa [ends] using State.faultDelivered_output fault occupied closes safe.output_of_occupied
      · obtain ⟨state, cause⟩ :=
          State.plateFault_of_egress (old := plate.cls) (code := badCode kind) fault occupied inEgress
        refine ⟨by simpa [ends] using state, ?_⟩
        simp only [ends, settleClear_lane, cause]
        change some (s.lane.faultCause.getD _) = _
        cases s.lane.faultCause <;> cases p <;> rfl
      · simp only [ends, settleClear_frame]
        rw [State.plateFault_events fault occupied alone, numbered.1, numbered.2, delivers]
        rfl
  refine ⟨fun zero offset => ⟨?within, ?beyond⟩, exec_integratePhaseEnd turn, ?overrange, fun rundown r inTime => ?good⟩
  case within =>
    intro low high
    rw [exec_zeroPhaseEnd turn zero, if_pos ⟨low, high⟩]
  case beyond =>
    intro beyond
    refine bad_of rfl ?_
    rw [exec_zeroPhaseEnd turn zero, if_neg (by omega)]
  case overrange => exact fun rundown => bad_of rfl (exec_rundownOverrange turn rundown)
  case good =>
    intro reading c k good settled noticed crossed
    have classed : s.config.readingClass plate.cls reading = k := by
      dsimp only [k]
      cases plate.cls <;> rfl
    have crosses {t : State} (h : s.goodConversion p reading = t.settleCheck) : crossed t := by
      refine (exec_rundownCrossing turn rundown inTime).trans ?_
      exact congrArg (fun u => Host.Outcome.next (settleClear s u)) h
    have takes {q : Plate} (sound : plate.fault = false) (debounced : good.debounce k = q)
        (uncounted : q.settle = plate.settle) : plate.takeGood s.config reading = settled q := by
      have taken := Plate.takeGood_of_sound (c := s.config) (reading := reading) sound
      rw [classed] at taken
      rw [taken]
      change (good.debounce k).countSettle k = _
      rw [debounced, Plate.countSettle, uncounted]
    have keepsClass (q : Plate) : (settled q).cls = q.cls := by
      dsimp only [settled]
      split <;> rfl
    refine ⟨fun fault => ?faulted, fun sound same => ?same, fun sound other first => ?first,
      fun sound other second => ?second⟩
    case faulted =>
      rw [← ended]
      exact crosses (State.goodConversion_of_kept (Plate.takeGood_of_fault fault) rfl)
    case same =>
      rw [← ended]
      exact crosses (State.goodConversion_of_kept (takes sound (Plate.debounce_of_same same) rfl) (keepsClass _))
    case first =>
      rw [← ended]
      exact crosses (State.goodConversion_of_kept (takes sound (Plate.debounce_of_first other first) rfl) (keepsClass _))
    case second =>
      rw [← ended]
      refine crosses (State.goodConversion_of_change (takes sound (Plate.debounce_of_second other second) rfl) ?_)
      rwa [keepsClass]

end Sys2Proof.Machine
end

section
/-! SUPPORT. The barrier driver's record (R159, R161, R166): what each of the driver's operations leaves of it, whatever it was, and the
operations of other blocks that reach the driver by its commands and reports. -/

namespace Sys2Proof.Machine

/-! ## The relation -/

/-- The driver comes from record `b` to `b'` under rules that let a movement toward closed begin only while `clear` holds: the egress
mark stays, a sound record stays sound, DRIVE_CLOSE stays a matter of CLOSING, and CLOSING is entered only while `clear` holds. -/
structure Barrier.Leads (clear : Prop) (b b' : Barrier) : Prop where
  mark : b'.egressMark = b.egressMark
  sound : b.sound → b'.sound
  closes : b.closesInClosing → b'.closesInClosing
  entry : b'.state = .closing → b.state = .closing ∨ clear

/-! ## The records that the driver's operations make -/

section Records

variable {b : Barrier}

/-- A movement stands in the record while the flap moves or pauses (R161). -/
theorem Barrier.sound.moves (h : b.sound) (flap : b.state = .opening ∨ b.state = .closing ∨ b.state = .paused) :
    b.movement ≠ none := by
  obtain ⟨-, -, -, rest, -⟩ := h
  rw [Ne, rest]
  rcases flap with state | state | state <;> simp [state]

/-- The bridge drives or brakes only while the flap moves (R159, R161). -/
theorem Barrier.sound.state_of_output (h : b.sound) (works : b.output ≠ .off) :
    b.state = .opening ∨ b.state = .closing := by
  obtain ⟨fits, -⟩ := h
  unfold Barrier.outputFits at fits
  cases state : b.state
  case opening => exact .inl rfl
  case closing => exact .inr rfl
  all_goals
    rw [state] at fits
    exact absurd fits works

/-- The travel timer runs only while the flap moves (R169). -/
theorem Barrier.sound.state_of_travel (h : b.sound) (runs : b.travelTimer.isRunning = true) :
    b.state = .opening ∨ b.state = .closing := by
  obtain ⟨-, -, -, -, travels⟩ := h
  exact travels runs

theorem Barrier.atEnd_sound (b : Barrier) (e : EndId) : (b.atEnd e).sound := by
  cases e <;> simp [Barrier.sound, Barrier.outputFits, Barrier.atEnd, endState, Timer.isRunning]

theorem Barrier.driveOpen_sound (b : Barrier) (o : Origin) : (b.driveOpen o).sound := by
  simp [Barrier.sound, Barrier.outputFits, Barrier.driveOpen]

theorem Barrier.driveClose_sound (b : Barrier) (o : Origin) : (b.driveClose o).sound := by
  simp [Barrier.sound, Barrier.outputFits, Barrier.driveClose]

theorem Barrier.turn_sound (b : Barrier) (e : EndId) (o : Origin) : (b.turn e o).sound := by
  cases e <;> simp [Barrier.sound, Barrier.outputFits, Barrier.turn]

theorem Barrier.halted_sound (b : Barrier) : b.halted.sound := by
  simp [Barrier.sound, Barrier.outputFits, Barrier.halted, Timer.isRunning]

theorem Barrier.restarted_sound (b : Barrier) : b.restarted.sound := by
  simp [Barrier.sound, Barrier.outputFits, Barrier.restarted, Barrier.afterReset, Timer.isRunning]

theorem Barrier.pause_sound (left : b.retry < 3) (moves : b.movement ≠ none) : b.pause.sound := by
  refine ⟨rfl, left, (fun halted => nomatch halted), ?_, fun runs => nomatch runs⟩
  simpa [Barrier.pause] using moves

/-- A movement whose drive begins, after BRAKE or a pause, with the record otherwise as it was (R159, R170). -/
theorem Barrier.sound.drives {b' : Barrier} (h : b.sound) (flap : b.state = .opening ∨ b.state = .closing ∨ b.state = .paused)
    (movement : b'.movement = b.movement) (retry : b'.retry = b.retry)
    (driven : (b'.state = .opening ∧ b'.output = .driveOpen) ∨ (b'.state = .closing ∧ b'.output = .driveClose)) :
    b'.sound := by
  have moves := h.moves flap
  obtain ⟨-, retries, -, -, -⟩ := h
  rcases driven with ⟨state, output⟩ | ⟨state, output⟩ <;>
    simp [Barrier.sound, Barrier.outputFits, state, output, movement, moves, retry, retries]

theorem Timer.tick_isRunning (t : Timer) : t.tick.isRunning = t.isRunning := by cases t <;> rfl

/-- A millisecond starts and stops no timer that R161 speaks of. -/
theorem Barrier.sound.tick (h : b.sound) : b.tick.sound := by
  simpa [Barrier.sound, Barrier.outputFits, Barrier.tick, Timer.tick_isRunning] using h

/-- A halt cleared leaves no movement and no drive (R171). -/
theorem Barrier.sound.latchCleared (h : b.sound) : b.latchCleared.sound := by
  obtain ⟨fits, retries, latched, moves, travels⟩ := h
  unfold Barrier.latchCleared
  split
  · split
    next halted =>
      refine ⟨rfl, retries, by simp, by simpa [halted] using moves, fun runs => ?_⟩
      simpa [halted] using travels runs
    next other => exact ⟨fits, retries, fun halted => absurd halted other, moves, travels⟩
  · exact ⟨fits, retries, latched, moves, travels⟩

end Records

namespace Barrier.Leads

variable {clear : Prop} {b x y : Barrier} {s t : State}

theorem refl (b : Barrier) : b.Leads clear b := ⟨rfl, id, id, .inl⟩

theorem trans (h : b.Leads clear x) (h' : x.Leads clear y) : b.Leads clear y :=
  ⟨h'.mark.trans h.mark, h'.sound ∘ h.sound, h'.closes ∘ h.closes, fun closing => (h'.entry closing).elim h.entry .inr⟩

/-- A record of another state than CLOSING, with no drive toward closed. -/
theorem toOther (h : b.Leads clear x) (mark : y.egressMark = x.egressMark) (sound : x.sound → y.sound)
    (output : y.output ≠ .driveClose) (state : y.state ≠ .closing) : b.Leads clear y :=
  h.trans ⟨mark, sound, fun _ drives => absurd drives output, fun closing => absurd closing state⟩

/-- A record in CLOSING, while `clear` holds. -/
theorem toClosing (h : b.Leads clear x) (mark : y.egressMark = x.egressMark) (sound : x.sound → y.sound)
    (state : y.state = .closing) (holds : clear) : b.Leads clear y :=
  h.trans ⟨mark, sound, fun _ _ => state, fun _ => .inr holds⟩

theorem ite {p : Prop} [Decidable p] (hs : p → b.Leads clear s.barrier) (ht : ¬p → b.Leads clear t.barrier) :
    b.Leads clear (if p then s else t).barrier := by
  split
  · exact hs ‹_›
  · exact ht ‹_›

/-- An operation that leaves the driver alone. -/
theorem of_eq (h : b.Leads clear s.barrier) (same : t.barrier = s.barrier) : b.Leads clear t.barrier := same ▸ h

theorem setBarrier (h : b.Leads clear x) (s : State) : b.Leads clear (s.setBarrier x).barrier := h
theorem setVessel (h : b.Leads clear s.barrier) (v : Vessel) : b.Leads clear (s.setVessel v).barrier := h
theorem setAccount (h : b.Leads clear s.barrier) (a : Account) : b.Leads clear (s.setAccount a).barrier := h
theorem setAdmission (h : b.Leads clear s.barrier) (a : Admission) : b.Leads clear (s.setAdmission a).barrier := h
theorem setLane (h : b.Leads clear s.barrier) (l : Lane) : b.Leads clear (s.setLane l).barrier := h

theorem returnFree (h : b.Leads clear s.barrier) : b.Leads clear s.returnFree.barrier := h.of_eq (by simp)

theorem backgroundCheck (h : b.Leads clear s.barrier) : b.Leads clear s.backgroundCheck.barrier := h.of_eq (by simp)

theorem reportReversed (h : b.Leads clear s.barrier) : b.Leads clear s.reportReversed.barrier := h.of_eq (by simp)

theorem pendingClose (h : b.Leads clear x) (pending : Bool) : b.Leads clear { x with pendingClose := pending } :=
  h.trans ⟨rfl, id, id, .inl⟩

theorem reDrive (h : b.Leads clear x) (e : Option EndId) : b.Leads clear { x with reDrive := e } :=
  h.trans ⟨rfl, id, id, .inl⟩

theorem setSwitch (h : b.Leads clear x) (e : EndId) (level : Bool) : b.Leads clear (x.setSwitch e level) := by
  cases e <;> exact h.trans ⟨rfl, id, id, .inl⟩

theorem travelStopped (h : b.Leads clear x) : b.Leads clear { x with travelTimer := .stopped } :=
  h.trans
    ⟨rfl, fun ⟨fits, retries, latched, moves, _⟩ => ⟨fits, retries, latched, moves, fun runs => nomatch runs⟩, id, .inl⟩

/-! ## Movements and ends (R163 to R166) -/

theorem atEnd (h : b.Leads clear x) (e : EndId) : b.Leads clear (x.atEnd e) :=
  h.toOther rfl (fun _ => x.atEnd_sound e) (by simp [Barrier.atEnd]) (by cases e <;> simp [Barrier.atEnd, endState])

theorem driveOpen (h : b.Leads clear x) (o : Origin) : b.Leads clear (x.driveOpen o) :=
  h.toOther rfl (fun _ => x.driveOpen_sound o) (by simp [Barrier.driveOpen]) (by simp [Barrier.driveOpen])

theorem driveClose (h : b.Leads clear x) (o : Origin) (holds : clear) : b.Leads clear (x.driveClose o) :=
  h.toClosing rfl (fun _ => x.driveClose_sound o) rfl holds

theorem turnOpen (h : b.Leads clear x) (o : Origin) : b.Leads clear (x.turn .openEnd o) :=
  h.toOther rfl (fun _ => x.turn_sound _ o) (by simp [Barrier.turn]) (by simp [Barrier.turn])

theorem turnClose (h : b.Leads clear x) (o : Origin) (holds : clear) : b.Leads clear (x.turn .closedEnd o) :=
  h.toClosing rfl (fun _ => x.turn_sound _ o) rfl holds

theorem reversed (h : b.Leads clear x) : b.Leads clear x.reversed :=
  (h.turnOpen x.origin).trans ⟨rfl, id, id, .inl⟩

theorem unpaused (h : b.Leads clear x) : b.Leads clear x.unpaused :=
  (h.driveOpen x.origin).trans ⟨rfl, id, id, .inl⟩

theorem halted (h : b.Leads clear x) : b.Leads clear x.halted :=
  h.toOther rfl (fun _ => x.halted_sound) (by simp [Barrier.halted]) (by simp [Barrier.halted])

theorem pause (h : b.Leads clear x) (left : x.retry < 3) (moves : b.sound → x.movement ≠ none) : b.Leads clear x.pause :=
  ⟨h.mark, fun sound => Barrier.pause_sound left (moves sound), (fun _ drives => nomatch drives), fun closing => nomatch closing⟩

theorem reachEnd (h : b.Leads clear s.barrier) (e : EndId) : b.Leads clear (s.reachEnd e).barrier :=
  ((h.atEnd e).setBarrier s).of_eq (by simp [State.reachEnd])

/-! ## The commands (R163, R164, R174) -/

theorem commandTaken (h : b.Leads clear s.barrier) : b.Leads clear s.commandTaken.barrier :=
  h.trans ⟨rfl, id, id, .inl⟩

theorem movementCommanded (h : b.Leads clear s.barrier) : b.Leads clear s.movementCommanded.barrier := by
  refine h.trans ⟨rfl, fun sound => ?_, id, .inl⟩
  obtain ⟨fits, retries, latched, moves, travels⟩ := sound
  exact ⟨fits, retries, latched, by simpa [State.movementCommanded] using moves, travels⟩

theorem beginOpen (h : b.Leads clear s.barrier) : b.Leads clear s.beginOpen.barrier :=
  .ite (fun _ => h.reachEnd _) fun _ => h.driveOpen _

theorem beginClose (h : b.Leads clear s.barrier) (holds : clear) : b.Leads clear s.beginClose.barrier :=
  .ite (fun _ => h.reachEnd _) fun _ => h.driveClose _ holds

theorem openTurned (h : b.Leads clear s.barrier) : b.Leads clear s.turnOpen.barrier :=
  .ite (fun _ => h.reachEnd _) fun _ => h.turnOpen _

theorem closeTurned (h : b.Leads clear s.barrier) (holds : clear) : b.Leads clear s.turnClose.barrier :=
  .ite (fun _ => h.reachEnd _) fun _ => h.turnClose _ holds

theorem egressAttempt (h : b.Leads clear s.barrier) : b.Leads clear s.egressAttempt.barrier :=
  .ite (fun _ => h.reachEnd _) fun _ =>
    h.toOther rfl (fun _ => by simp [Barrier.sound, Barrier.outputFits, Barrier.driveOpen])
      (by simp [Barrier.driveOpen]) (by simp [Barrier.driveOpen])

theorem openCommand (h : b.Leads clear s.barrier) (e : Bool) : b.Leads clear (s.openCommand e).barrier := by
  unfold State.openCommand
  split
  case h_3 => exact h.commandTaken.movementCommanded
  case h_4 => exact of_eq h.commandTaken (by simp)
  case h_5 => exact h.commandTaken.openTurned
  case h_7 => exact .ite (fun _ => h.commandTaken.egressAttempt) fun _ => h
  all_goals exact h.commandTaken.beginOpen

theorem closeCommand (h : b.Leads clear s.barrier) (holds : s.plateCondition = true → clear) :
    b.Leads clear s.closeCommand.barrier := by
  have kept := h.reportReversed
  unfold State.closeCommand
  split
  case h_1 =>
    exact .ite (fun empty => h.commandTaken.beginClose (holds empty)) fun _ =>
      ((h.pendingClose true).setBarrier s).reportReversed
  case h_2 => exact of_eq h.commandTaken (by simp)
  case h_4 => exact .ite (fun empty => h.commandTaken.closeTurned (holds empty)) fun _ => kept
  case h_5 => exact h.commandTaken.movementCommanded
  case h_7 => exact h
  all_goals exact .ite (fun empty => h.commandTaken.beginClose (holds empty)) fun _ => kept

/-! ## Reversal, stalls, travel and pauses (R166 to R174) -/

theorem plateBroken (h : b.Leads clear s.barrier) : b.Leads clear s.plateBroken.barrier :=
  .ite (fun _ => (h.reversed.setBarrier s).reportReversed) fun _ =>
    .ite (fun _ => (h.unpaused.setBarrier s).reportReversed) fun _ => h

theorem halt (h : b.Leads clear s.barrier) (c : FaultCause) : b.Leads clear (s.halt c).barrier :=
  (h.halted.setBarrier s).of_eq (by simp [State.halt])

/-- RETRY pauses a movement with retries left, and halts otherwise (R168, R169). -/
theorem retried (h : b.Leads clear s.barrier) (moves : b.sound → s.barrier.movement ≠ none) (c : FaultCause) :
    b.Leads clear (if s.mayRetry then s.setBarrier s.barrier.pause else s.halt c).barrier := by
  refine .ite (fun retries => ?_) fun _ => h.halt c
  have left : s.barrier.retry < 3 := by
    simp only [State.mayRetry, Bool.and_eq_true, decide_eq_true_eq] at retries
    exact retries.1.2
  exact h.pause left moves

theorem stallByMode (h : b.Leads clear s.barrier) (moves : b.sound → s.barrier.movement ≠ none) :
    b.Leads clear s.stallByMode.barrier := by
  unfold State.stallByMode
  split
  · exact h.halt _
  · exact h.retried moves _
  · exact h
  · exact h

theorem takePosition (h : b.Leads clear s.barrier) (e : EndId) : b.Leads clear (s.takePosition e).barrier :=
  (h.reachEnd e).trans ⟨rfl, id, id, .inl⟩

theorem travelByMode (h : b.Leads clear s.barrier) (moves : b.sound → s.barrier.movement ≠ none) :
    b.Leads clear s.travelByMode.barrier := by
  unfold State.travelByMode
  split
  · exact h.halt _
  · exact h.retried moves _
  · exact h.takePosition _
  · exact h.takePosition _

theorem obstruction (h : b.Leads clear s.barrier) (moves : b.sound → s.barrier.movement ≠ none) :
    b.Leads clear s.obstruction.barrier := by
  have counted : b.Leads clear
      (s.setBarrier { s.barrier with obstructions := min (s.barrier.obstructions + 1) 255 }).barrier :=
    h.trans ⟨rfl, id, id, .inl⟩
  exact .ite (fun _ => counted.plateBroken) fun _ => .ite (fun _ => counted.plateBroken) fun _ =>
    counted.stallByMode moves

/-- The pause's end drives toward closed only under the plate condition (R170). -/
theorem endPause (h : b.Leads clear s.barrier) (paused : s.barrier.state = .paused)
    (holds : s.plateCondition = true → clear) : b.Leads clear s.endPause.barrier := by
  have moving : s.barrier.state = .opening ∨ s.barrier.state = .closing ∨ s.barrier.state = .paused :=
    .inr (.inr paused)
  refine .ite (fun _ => h.reachEnd _) fun _ => .ite (fun _ => ?_) fun _ => .ite (fun empty => ?_) fun _ => ?_
  · exact h.toOther rfl (fun sound => sound.drives moving rfl rfl (.inl ⟨rfl, rfl⟩)) (by simp) (by simp)
  · exact h.toClosing rfl (fun sound => sound.drives moving rfl rfl (.inr ⟨rfl, rfl⟩)) rfl (holds empty)
  · exact (h.unpaused.setBarrier s).reportReversed

theorem switchActive (h : b.Leads clear s.barrier) (e : EndId) : b.Leads clear (s.switchActive e).barrier :=
  .ite (fun _ => .ite (fun _ => h) fun _ => h.halt _) fun _ =>
    .ite (fun _ => h.reachEnd e) fun _ => h.trans ⟨rfl, id, id, .inl⟩

theorem latchCleared (h : b.Leads clear x) : b.Leads clear x.latchCleared := by
  have marked : x.latchCleared.egressMark = x.egressMark := by
    unfold Barrier.latchCleared
    split <;> [split; skip] <;> rfl
  refine h.trans ⟨marked, Barrier.sound.latchCleared, fun closes => ?_, fun closing => .inl ?_⟩
  · unfold Barrier.latchCleared
    split
    · split
      · exact fun drives => nomatch drives
      · exact closes
    · exact closes
  · revert closing
    unfold Barrier.latchCleared
    split
    · split
      · exact fun closing => nomatch closing
      · exact id
    · exact id

theorem clearLatch (h : b.Leads clear s.barrier) : b.Leads clear s.clearLatch.barrier := by
  rw [State.clearLatch_eq]
  exact .ite (fun _ => (h.latchCleared.setBarrier s).openCommand true) fun _ => h.latchCleared

/-- The drive begins when the brake time is over (R159). -/
theorem brakeEnd (h : b.Leads clear x) (brake : x.output = .brake) :
    b.Leads clear
      { x with brakeTimer := .stopped, output := if x.state = .closing then .driveClose else .driveOpen } := by
  refine h.trans ⟨rfl, fun sound => ?_, fun _ drives => ?_, .inl⟩
  · have works : x.output ≠ .off := by simp [brake]
    rcases sound.state_of_output works with opening | closing
    · exact sound.drives (.inl opening) rfl rfl (.inl ⟨opening, by simp [opening]⟩)
    · exact sound.drives (.inr (.inl closing)) rfl rfl (.inr ⟨closing, by simp [closing]⟩)
  · by_contra notClosing
    exact nomatch (if_neg notClosing).symm.trans drives

/-! ## Operations of other blocks that command the barrier -/

theorem authorise (h : b.Leads clear s.barrier) (n : Nat) : b.Leads clear (s.authorise n).barrier :=
  .ite (fun _ => ((h.setLane _).setLane _).openCommand false) fun _ => h

theorem admitParty (h : b.Leads clear s.barrier) (n p w : Nat) : b.Leads clear (s.admitParty n p w).barrier :=
  backgroundCheck ((h.setAccount _).authorise p)

theorem claimReport (h : b.Leads clear s.barrier) (c : ClaimCause) : b.Leads clear (s.claimReport c).barrier := by
  unfold State.claimReport
  split
  · exact h
  · exact .ite (fun _ => .ite (fun _ => .ite (fun _ => h.admitParty _ _ _) fun _ => of_eq h (by simp)) fun _ =>
      of_eq h (by simp)) fun _ => h

theorem endClaimWith (h : b.Leads clear s.barrier) (c : ClaimCause) : b.Leads clear (s.endClaimWith c).barrier :=
  .ite (fun _ => claimReport (of_eq h (by simp)) c) fun _ => of_eq h (by simp)

theorem grantEndsClaim (h : b.Leads clear s.barrier) (r : Nat) : b.Leads clear (s.grantEndsClaim r).barrier :=
  .ite (fun _ => h) fun _ => .ite (fun _ => h.endClaimWith _) fun _ => .ite (fun _ => h.endClaimWith _) fun _ => h

theorem grantHeard (h : b.Leads clear s.barrier) (w : Byte) (body : List Byte) :
    b.Leads clear (s.grantHeard w body).barrier := by
  unfold State.grantHeard
  dsimp only
  split
  · have claimed (a : Account) (r : Nat) (named : List Nat) :
        b.Leads clear (if named.isEmpty then s.setAccount a else (s.setAccount a).grantEndsClaim r).barrier :=
      .ite (fun _ => h.setAccount a) fun _ => (h.setAccount a).grantEndsClaim r
    exact .ite (fun _ => backgroundCheck (.ite (fun _ => (claimed _ _ _).returnFree) fun _ => claimed _ _ _))
      fun _ => .ite (fun _ => (claimed _ _ _).returnFree) fun _ => claimed _ _ _
  · exact h

theorem acceptPresentation (h : b.Leads clear s.barrier) (p : Presentation) :
    b.Leads clear (s.acceptPresentation p).barrier :=
  .ite (fun _ => .ite (fun _ => h.admitParty _ _ _) fun _ => of_eq h (by simp)) fun _ => of_eq h (by simp)

theorem takePresent (h : b.Leads clear s.barrier) (key : TicketKey) (cls party : Byte) :
    b.Leads clear (State.takePresent key cls party s).1.barrier := by
  unfold State.takePresent
  split
  · exact h
  · exact (h.setAdmission _).acceptPresentation _

theorem ticketCompleted (h : b.Leads clear s.barrier) (e : TxEntry) : b.Leads clear (s.ticketCompleted e).barrier := by
  unfold State.ticketCompleted
  dsimp only
  split <;> split
  next p _ => exact (h.admitParty p.number p.party p.window).of_eq (by simp)
  next => exact of_eq h (by simp)
  next => exact h.admitParty _ _ _
  next => exact h

theorem ownerCompleted (h : b.Leads clear s.barrier) (e : TxEntry) (f : Frame) :
    b.Leads clear (s.ownerCompleted e f).barrier := by
  unfold State.ownerCompleted
  split
  case h_3 => exact h.ticketCompleted e
  all_goals exact of_eq h (by simp)

theorem alightOpen (h : b.Leads clear s.barrier) (p : PlateId) (old : PlateClass) :
    b.Leads clear (s.alightOpen p old).barrier :=
  .ite (fun _ => (h.setLane _).openCommand false) fun _ => h

theorem deliverClass (h : b.Leads clear s.barrier) (p : PlateId) (old : PlateClass) :
    b.Leads clear (s.deliverClass p old).barrier := by
  have taken : b.Leads clear (((s.alightOpen p old).loiterChange p old).trackerChange p old).barrier :=
    of_eq (h.alightOpen p old) (by simp)
  exact .ite (fun _ => taken.plateBroken) fun _ => taken

theorem takeFlow (h : b.Leads clear s.barrier) : b.Leads clear s.takeFlow.barrier := by
  have quiet (l : Lane) : b.Leads clear (s.unarmTracker.setLane l).barrier := of_eq h (by simp)
  unfold State.takeFlow
  dsimp only
  split
  · exact h
  split
  · exact h
  split
  case h_5 => exact .ite (fun _ => (quiet _).openCommand false) fun _ => quiet _
  case h_6 | h_7 | h_8 => exact quiet _
  all_goals exact ((quiet _).setLane _).openCommand false

theorem takeLaneMode (h : b.Leads clear s.barrier) (mode : Byte) : b.Leads clear (State.takeLaneMode mode s).1.barrier := by
  unfold State.takeLaneMode
  split
  · exact h
  split
  · exact h
  · exact .ite (fun _ => h.takeFlow) fun _ => of_eq h (by simp)

theorem takeOpenWindow (h : b.Leads clear s.barrier) : b.Leads clear s.takeOpenWindow.1.barrier := by
  unfold State.takeOpenWindow
  split
  · exact h
  split
  · exact h
  · have opened (v : Vessel) := (h.setVessel v).takeFlow
    exact (opened (s.vessel.openedWith (s.config.capacity - s.vessel.onboard))).of_eq (by simp)

theorem startLane (h : b.Leads clear s.barrier) : b.Leads clear s.startLane.barrier :=
  .ite (fun _ => (h.setLane _).openCommand false) fun _ => .ite (fun _ => h) fun _ => h

end Barrier.Leads

end Sys2Proof.Machine
end

section
/-! SUPPORT. The flap and the plates at every step (R145, R151 to R155, R159, R161, R162, R166): what each command makes of the barrier
driver, the plates and the egress state together, and that it keeps the flap safe and both records sound. -/

namespace Sys2Proof.Machine

variable {r s t : State} {p : PlateId}

/-! ## The plates' records (R145, R151 to R155) -/

section Plates

variable {c : Converter} {q x : Plate} {k : PlateClass}

theorem Converter.sound_iff : c.sound ↔ (∀ p, (c.plate p).sound) ∧ c.takesTurns :=
  ⟨fun ⟨a, b, turns⟩ => ⟨fun p => by cases p <;> assumption, turns⟩, fun ⟨each, turns⟩ => ⟨each .a, each .b, turns⟩⟩

theorem Converter.plate_setPlate_eq (c : Converter) (p o : PlateId) (x : Plate) :
    (c.setPlate p x).plate o = if o = p then x else c.plate o := by
  cases p <;> cases o <;> rfl

/-- The turns are read from the phases alone. -/
theorem Converter.takesTurns.of_phases {d : Converter} (h : c.takesTurns) (turn : d.turn = c.turn)
    (phases : ∀ p, (d.plate p).phase = (c.plate p).phase) : d.takesTurns := by
  unfold Converter.takesTurns at h ⊢
  rw [turn]
  split
  next none =>
    rw [none] at h
    exact ⟨(phases .a).trans h.1, (phases .b).trans h.2⟩
  next o some =>
    rw [some] at h
    rwa [phases o, phases (otherPlate o)]

theorem Converter.takesTurns.setPlate (h : c.takesTurns) (phase : x.phase = (c.plate p).phase) :
    (c.setPlate p x).takesTurns := by
  refine h.of_phases (by cases p <;> rfl) fun o => ?_
  rw [Converter.plate_setPlate_eq]
  split
  next same => rw [same, phase]
  next => rfl

/-- The plate in turn goes on to another phase of its conversion (R147, R148). -/
theorem Converter.takesTurns.nextPhase (h : c.takesTurns) (turn : c.turn = some p)
    (phase : x.phase = .integrate ∨ x.phase = .rundown) : (c.setPlate p x).takesTurns := by
  have turn' : (c.setPlate p x).turn = some p := by cases p <;> exact turn
  unfold Converter.takesTurns at h ⊢
  rw [turn] at h
  rw [turn']
  simp only [Converter.plate_setPlate, Converter.plate_setPlate_other]
  exact ⟨.inr phase, h.2⟩

theorem Converter.sound.setPlate (h : c.sound) (plate : (c.plate p).sound → x.sound)
    (turns : c.takesTurns → (c.setPlate p x).takesTurns) : (c.setPlate p x).sound := by
  rw [Converter.sound_iff] at h ⊢
  refine ⟨fun o => ?_, turns h.2⟩
  rw [Converter.plate_setPlate_eq]
  split
  · exact plate (h.1 p)
  · exact h.1 o

/-- The end of a conversion gives the turn to the other plate, whatever the turns were (R146). -/
theorem Converter.endConversion_takesTurns (c : Converter) (p : PlateId) : (c.endConversion p).takesTurns := by
  cases p <;> exact ⟨.inl rfl, rfl⟩

theorem Converter.sound.endConversion (h : c.sound) (plate : (c.plate p).sound → x.sound) :
    ((c.setPlate p x).endConversion p).sound := by
  obtain ⟨a, b, -⟩ := h
  cases p
  · exact ⟨plate a, b, Converter.endConversion_takesTurns _ _⟩
  · exact ⟨a, plate b, Converter.endConversion_takesTurns _ _⟩

theorem Plate.sound.debounce (h : q.sound) (noFault : q.fault = false) : (q.debounce k).sound := by
  obtain ⟨-, -, -, settle⟩ := h
  by_cases same : k = q.cls
  · rw [Plate.debounce_of_same same]
    simp [Plate.sound, noFault, settle]
  by_cases second : q.candidate = some k
  · rw [Plate.debounce_of_second same second]
    simp [Plate.sound, noFault, settle]
  · rw [Plate.debounce_of_first same second]
    simp [Plate.sound, noFault, settle, same]

theorem Plate.sound.countSettle (h : q.sound) : (q.countSettle k).sound := by
  unfold Plate.countSettle
  split
  next more =>
    obtain ⟨frozen, noRun, run, -⟩ := h
    refine ⟨frozen, noRun, run, ?_⟩
    dsimp only
    split
    · exact more
    · exact Nat.zero_le _
  next => exact h

theorem Plate.sound.takeGood (h : q.sound) (config : ConfigRecord) (reading : Nat) : (q.takeGood config reading).sound := by
  have read : (q.read reading).sound := h
  by_cases fault : q.fault = true
  · rwa [Plate.takeGood_of_fault fault]
  · have noFault : q.fault = false := Bool.eq_false_of_not_eq_true fault
    rw [Plate.takeGood_of_sound noFault]
    exact (read.debounce noFault).countSettle

theorem Plate.takeGood_fault (q : Plate) (config : ConfigRecord) (reading : Nat) :
    (q.takeGood config reading).fault = q.fault := by
  unfold Plate.takeGood Plate.countSettle Plate.debounce
  dsimp only
  repeat' split
  all_goals rfl

theorem Plate.sound.faulted (h : q.sound) : q.faulted.sound := by
  obtain ⟨-, -, -, settle⟩ := h
  simp [Plate.sound, Plate.faulted, settle]

theorem Plate.sound.clearFault (h : q.sound) : q.clearFault.sound := by
  obtain ⟨-, noRun, run, settle⟩ := h
  unfold Plate.clearFault
  split
  next => exact ⟨by simp, noRun, run, settle⟩
  next noFault => exact ⟨fun fault => absurd fault noFault, noRun, run, settle⟩

theorem Plate.clearFault_phase (q : Plate) : q.clearFault.phase = q.phase := by
  unfold Plate.clearFault
  split <;> rfl

theorem Plate.restarted_sound (q : Plate) (phase : Phase) : (q.restarted phase).sound := by
  simp [Plate.sound, Plate.restarted]

theorem Plate.clearFault_isClear (clear : q.isClear = true) : q.clearFault.isClear = true := by
  obtain ⟨-, noFault⟩ := Plate.isClear_iff.1 clear
  rwa [Plate.clearFault, if_neg (by simp [noFault])]

end Plates

/-! ## The relation -/

/-- `t` is safe and sound where `s` is: the flap over the plates and the egress state, the driver's record, and the plates' records. -/
structure State.KeepsFlap (s t : State) : Prop where
  safe : s.barrierSafe → t.barrierSafe
  driver : s.barrier.sound → t.barrier.sound
  plates : s.converter.sound → t.converter.sound

namespace State.KeepsFlap

theorem refl (s : State) : s.KeepsFlap s := ⟨id, id, id⟩

theorem trans (h : r.KeepsFlap s) (h' : s.KeepsFlap t) : r.KeepsFlap t :=
  ⟨h'.safe ∘ h.safe, h'.driver ∘ h.driver, h'.plates ∘ h.plates⟩

theorem ite {c : Prop} [Decidable c] (hs : c → r.KeepsFlap s) (ht : ¬c → r.KeepsFlap t) : r.KeepsFlap (if c then s else t) := by
  split
  · exact hs ‹_›
  · exact ht ‹_›

/-- The driver's operations leave the egress state, and the flap is CLOSING under the plate condition alone. -/
theorem of_driver {clear : Prop} (driver : s.barrier.Leads clear t.barrier) (egress : t.egress.state = s.egress.state)
    (plates : s.converter.sound → t.converter.sound)
    (closing : s.barrierSafe → t.barrier.state = .closing → t.plateCondition = true) : s.KeepsFlap t := by
  refine ⟨fun safe => ⟨driver.closes safe.1, closing safe, ?_⟩, driver.sound, plates⟩
  obtain ⟨-, -, mark⟩ := safe
  rw [driver.mark, mark, State.inEgress, State.inEgress, egress]

/-- Nothing that the flap's safety and the two records are about changes. -/
theorem of_eq (same : t.barrier = s.barrier ∧ t.converter = s.converter ∧ t.egress.state = s.egress.state) :
    s.KeepsFlap t := by
  obtain ⟨barrier, converter, egress⟩ := same
  refine of_driver (clear := False) (barrier ▸ .refl _) egress (by rw [converter]; exact id) fun ⟨_, clear, _⟩ closing => ?_
  rw [barrier] at closing
  simpa [State.plateCondition, State.platesClear, barrier, converter] using clear closing

/-- The driver is commanded, or takes a report, over the same plates. -/
theorem of_leads (driver : s.barrier.Leads (s.plateCondition = true) t.barrier)
    (same : t.converter = s.converter ∧ t.egress.state = s.egress.state) : s.KeepsFlap t := by
  obtain ⟨converter, egress⟩ := same
  refine of_driver driver egress (by rw [converter]; exact id) fun ⟨_, clear, _⟩ closing => ?_
  have condition : s.plateCondition = true := (driver.entry closing).elim clear id
  rwa [State.plateCondition, State.platesClear, converter, driver.mark]

/-- An event at a plate begins no movement toward closed, and ends one where the plate was EMPTY. -/
theorem of_occupied (driver : s.barrier.Leads False t.barrier) (egress : t.egress.state = s.egress.state)
    (plates : s.converter.sound → t.converter.sound)
    (ends : (s.converter.plate p).cls = .empty → t.barrier.state ≠ .closing) : s.KeepsFlap t := by
  refine of_driver driver egress plates fun ⟨_, clear, _⟩ closing => ?_
  have condition := clear ((driver.entry closing).resolve_right id)
  rw [State.plateCondition, Bool.and_eq_true] at condition
  exact absurd closing (ends (State.platesClear_iff.1 condition.1 p).1)

theorem setBarrier {b : Barrier} (driver : s.barrier.Leads (s.plateCondition = true) b) : s.KeepsFlap (s.setBarrier b) :=
  of_leads driver ⟨rfl, rfl⟩

/-- The plates change, and none that was clear ceases to be. -/
theorem setConverter {c : Converter} (plates : s.converter.sound → c.sound)
    (clear : ∀ p, (s.converter.plate p).isClear = true → (c.plate p).isClear = true) : s.KeepsFlap (s.setConverter c) := by
  refine of_driver (clear := False) (.refl _) rfl plates fun ⟨_, condition, _⟩ closing => ?_
  have was := condition closing
  simp only [State.plateCondition, State.platesClear, Bool.and_eq_true] at was ⊢
  exact ⟨⟨clear .a was.1.1, clear .b was.1.2⟩, was.2⟩

theorem settled (h : r.KeepsFlap t) (s : State) : r.KeepsFlap (settleClear s t) := h.trans (of_eq (by simp))

/-! ## Conversions (R146 to R155) -/

theorem conversionEnded {x : Plate} (sound : (s.converter.plate p).sound → x.sound)
    (clear : (s.converter.plate p).isClear = true → x.isClear = true) : s.KeepsFlap (s.conversionEnded p x) := by
  refine setConverter (fun h => h.endConversion sound) fun o => ?_
  cases p <;> cases o
  · exact clear
  · exact id
  · exact id
  · exact clear

end State.KeepsFlap

/-- A plate that becomes occupied stops a flap that moves toward closed (R166). -/
theorem State.plateBroken_state (s : State) : s.plateBroken.barrier.state ≠ .closing := by
  unfold State.plateBroken
  split
  next => simp [Barrier.reversed, Barrier.turn]
  next notClosing =>
    split
    · simp [Barrier.unpaused, Barrier.driveOpen]
    · exact notClosing

theorem State.deliverClass_state {old : PlateClass} (left : old = .empty) (arrives : (s.converter.plate p).cls ≠ .empty) :
    (s.deliverClass p old).barrier.state ≠ .closing := by
  subst left
  rw [State.deliverClass_of_arrival arrives]
  exact State.plateBroken_state _

namespace State.KeepsFlap

theorem settleCheck (h : r.KeepsFlap s) : r.KeepsFlap s.settleCheck := h.trans (of_eq (by simp))

theorem goodConversion (s : State) (p : PlateId) (reading : Nat) : s.KeepsFlap (s.goodConversion p reading) := by
  generalize taken : (s.converter.plate p).takeGood s.config reading = q
  have sound : (s.converter.plate p).sound → q.sound := fun h => taken ▸ h.takeGood s.config reading
  have fault : q.fault = (s.converter.plate p).fault := taken ▸ Plate.takeGood_fault _ _ _
  by_cases kept : q.cls = (s.converter.plate p).cls
  · rw [State.goodConversion_of_kept taken kept]
    exact (conversionEnded sound (by simp [Plate.isClear, kept, fault])).settleCheck
  · rw [State.goodConversion_of_change taken kept]
    have driver : s.barrier.Leads False ((s.conversionEnded p q).deliverClass p (s.converter.plate p).cls).barrier :=
      Barrier.Leads.deliverClass (s := s.conversionEnded p q) (.refl _) p _
    refine settleCheck (of_occupied (p := p) driver (by simp [State.conversionEnded]) ?_ fun empty => ?_)
    · intro h
      simpa [State.conversionEnded] using h.endConversion sound
    · exact State.deliverClass_state empty (by simpa [← empty] using kept)

/-- A plate's fault turns a flap back that moves toward closed over an EMPTY plate (R154, R166). -/
theorem plateFault (s : State) (p : PlateId) (kind : ConversionResult) : s.KeepsFlap (s.plateFault p kind) := by
  let q := (s.converter.plate p).faulted
  let t := s.setConverter (s.converter.setPlate p q)
  have delivered : s.plateFault p kind =
      (t.faultDelivered p (s.converter.plate p).cls).faultRaised p (badCode kind) := rfl
  have fault : (t.converter.plate p).fault = true := by simp [t, q, Plate.faulted]
  have occupied : (t.converter.plate p).cls = .occupied := by simp [t, q, Plate.faulted]
  have quiet : s.barrier.Leads False (t.plateQuieted p).barrier :=
    Barrier.Leads.of_eq (s := t) (.refl _) (by simp [t.plateQuieted_leaves p])
  have plates : s.converter.sound → t.converter.sound := fun h =>
    h.setPlate Plate.sound.faulted fun turns => turns.setPlate rfl
  have converter : (s.plateFault p kind).converter = t.converter := by
    rw [delivered]
    exact (State.plateFault_leaves fault occupied).1
  have raised : (s.plateFault p kind).barrier = (t.faultDelivered p (s.converter.plate p).cls).barrier := by
    rw [delivered, (State.faultRaised_leaves ..).2.1]
  rw [State.faultDelivered_eq fault occupied] at raised
  refine of_occupied (p := p) ?_ (by simp) (converter ▸ plates) fun empty => ?_
  · rw [raised]
    exact .ite (fun _ => (quiet.alightOpen p .empty).plateBroken) fun _ => quiet
  · rw [raised, if_pos empty]
    exact State.plateBroken_state _

theorem badConversion (s : State) (p : PlateId) (kind : ConversionResult) : s.KeepsFlap (s.badConversion p kind) := by
  have ended : s.KeepsFlap (s.conversionEnded p ((s.converter.plate p).missed kind)) := conversionEnded id id
  exact ite (fun _ => ended.trans (plateFault _ p kind)) fun _ => ended

theorem nextPhase {x : Plate} (turn : s.converter.turn = some p) (phase : x.phase = .integrate ∨ x.phase = .rundown)
    (sound : (s.converter.plate p).sound → x.sound) (clear : x.isClear = (s.converter.plate p).isClear) :
    s.KeepsFlap (s.setConverter (s.converter.setPlate p x)) := by
  refine setConverter (fun h => h.setPlate sound fun turns => turns.nextPhase turn phase) fun o => ?_
  rw [Converter.plate_setPlate_eq]
  split
  next same => rw [same, clear]; exact id
  next => exact id

/-! ## Requests that reach the plates (R140, R141, R156, R158, R175) -/

theorem openCommand (h : r.KeepsFlap s) (e : Bool) : r.KeepsFlap (s.openCommand e) :=
  h.trans (of_leads (Barrier.Leads.openCommand (.refl _) e) (by simp))

theorem clearPlateFaults (s : State) : s.KeepsFlap s.clearPlateFaults := by
  refine setConverter (fun ⟨a, b, turns⟩ => ⟨a.clearFault, b.clearFault, ?_⟩) fun o => ?_
  · refine turns.of_phases rfl fun o => ?_
    cases o <;> exact Plate.clearFault_phase _
  · cases o <;> exact Plate.clearFault_isClear

theorem clearLatch (h : r.KeepsFlap s) : r.KeepsFlap s.clearLatch :=
  h.trans (of_leads (Barrier.Leads.clearLatch (.refl _)) (by simp))

theorem setLane (h : r.KeepsFlap s) (l : Lane) : r.KeepsFlap (s.setLane l) := h.trans (of_eq ⟨rfl, rfl, rfl⟩)

theorem raise (h : r.KeepsFlap s) (k : EventKind) (a b c : Nat) : r.KeepsFlap (s.raise k a b c) :=
  h.trans (of_eq ⟨rfl, rfl, rfl⟩)

theorem clearFaults (s : State) : s.KeepsFlap s.clearFaults.1 := by
  have cleared := (clearPlateFaults s).clearLatch
  unfold State.clearFaults
  split
  · dsimp only
    split
    · exact cleared
    · exact ite (fun _ => (cleared.setLane _).openCommand false) fun _ => cleared.setLane _
  · split
    · exact (((clearPlateFaults s).setLane _).clearLatch).raise _ _ _ _
    · exact refl s

/-- A restart has the driver at rest over plates classed EMPTY anew. -/
theorem restartBegun (s : State) : s.KeepsFlap s.restartBegun := by
  have sound : s.restartBegun.converter.sound :=
    ⟨Plate.restarted_sound _ _, Plate.restarted_sound _ _, .inl rfl, rfl⟩
  have driver : s.barrier.Leads False s.restartBegun.barrier :=
    (Barrier.Leads.refl _).toOther rfl (fun _ => s.barrier.restarted_sound) (fun drives => nomatch drives)
      (fun closing => nomatch closing)
  exact of_driver driver (by simp) (fun _ => sound) fun _ closing => nomatch closing

theorem restartLane (s : State) : s.KeepsFlap s.restartLane.1 := by
  by_cases refused : s.presence.state = .setup ∨ s.lane.state = .egress
  · rw [State.restartLane_of_refused refused]
    exact refl s
  · obtain ⟨started, lane⟩ := not_or.1 refused
    rw [State.restartLane_of_taken started lane]
    have told := ite (c := s.lane.state = .fault) (fun _ => (restartBegun s).raise .faultCleared 0 0 0)
      fun _ => restartBegun s
    have opened : s.KeepsFlap s.restartOpened := ite (fun _ => told.openCommand false) fun _ => told
    exact opened.trans (of_eq (by simp [State.restarted]))

end State.KeepsFlap

/-! ## Egress (R162, R174, R177 to R181) -/

/-- The driver told of egress, before the open command: marked, and turned back from CLOSING. -/
def Barrier.evacuated (b : Barrier) : Barrier :=
  let marked := { b with egressMark := true }
  if b.state = .closing then marked.reversed else marked

theorem Barrier.evacuated_leads (b : Barrier) : Barrier.Leads False { b with egressMark := true } b.evacuated := by
  unfold Barrier.evacuated
  dsimp only
  split
  · exact (Barrier.Leads.refl _).reversed
  · exact .refl _

theorem Barrier.evacuated_state (b : Barrier) : b.evacuated.state ≠ .closing := by
  unfold Barrier.evacuated
  dsimp only
  split
  · simp [Barrier.reversed, Barrier.turn]
  · assumption

theorem State.barrierEgress_eq (s : State) : s.barrierEgress = (s.setBarrier s.barrier.evacuated).openCommand true := by
  by_cases closing : s.barrier.state = .closing
  · rw [State.barrierEgress, if_pos (by exact closing), Barrier.evacuated, if_pos closing]
    rfl
  · rw [State.barrierEgress, if_neg (by exact closing), Barrier.evacuated, if_neg closing]

theorem State.barrierEgress_leads (s : State) :
    Barrier.Leads False { s.barrier with egressMark := true } s.barrierEgress.barrier := by
  rw [State.barrierEgress_eq]
  exact (s.barrier.evacuated_leads.setBarrier s).openCommand true

theorem State.barrierEgress_state (s : State) : s.barrierEgress.barrier.state ≠ .closing := by
  rw [State.barrierEgress_eq]
  have opens := Barrier.Leads.openCommand (s := s.setBarrier s.barrier.evacuated) (.refl _) true (clear := False)
  exact fun closing => (opens.entry closing).elim s.barrier.evacuated_state id

namespace State.KeepsFlap

theorem enterEgress (s : State) (o : EgressOrigin) (g : Station) : s.KeepsFlap (s.enterEgress o g) := by
  have entered : ∃ u : State, u.barrier = s.barrier ∧ (s.enterEgress o g).barrier = u.barrierEgress.barrier :=
    ⟨(((s.setEgress { s.egress with state := .egress, origin := o, endMark := false }).raise .egressBegan o.code
      g.toNat).laneEgress.abortPresentation).egressReturn, by simp, by simp [State.enterEgress]⟩
  obtain ⟨u, barrier, driven⟩ := entered
  have leads := u.barrierEgress_leads
  have notClosing := u.barrierEgress_state
  rw [barrier, ← driven] at leads
  rw [← driven] at notClosing
  have egress : (s.enterEgress o g).egress.state = .egress := by simp [State.enterEgress]
  refine ⟨fun ⟨closes, _, _⟩ => ⟨leads.closes closes, fun closing => absurd closing notClosing, ?_⟩, leads.sound, ?_⟩
  · rw [leads.mark, State.inEgress, egress]
    rfl
  · simp

theorem leaveEgress (s : State) (c : LeaveCause) (g : Station) : s.KeepsFlap (s.leaveEgress c g) := by
  have barrier : (s.leaveEgress c g).barrier = { s.barrier with egressMark := false } := by simp [State.leaveEgress]
  have egress : (s.leaveEgress c g).egress.state = .normal := by simp [State.leaveEgress]
  refine ⟨fun ⟨closes, clear, _⟩ => ⟨?_, fun closing => ?_, ?_⟩, ?_, by simp⟩
  · rw [barrier]
    exact closes
  · rw [barrier] at closing
    have condition := clear closing
    rw [State.plateCondition, Bool.and_eq_true] at condition
    have plates : (s.leaveEgress c g).platesClear = s.platesClear := by simp [State.platesClear]
    rw [State.plateCondition, plates, condition.1, barrier]
    rfl
  · rw [barrier, State.inEgress, egress]
    rfl
  · rw [barrier]
    exact id

theorem setLink (s : State) (l : Link) : s.KeepsFlap (s.setLink l) := of_eq ⟨rfl, rfl, rfl⟩

theorem queueEvacuation (h : r.KeepsFlap s) (k : FrameKind) : r.KeepsFlap (s.queueEvacuation k) :=
  h.trans (of_eq ⟨rfl, rfl, rfl⟩)

theorem setEgressInput (s : State) (active : Bool) : s.KeepsFlap (s.setEgress { s.egress with input := active }) :=
  of_eq ⟨rfl, rfl, rfl⟩

theorem enterOwnEgress (s : State) : s.KeepsFlap s.enterOwnEgress := (enterEgress s _ _).queueEvacuation _

theorem inputRaised (s : State) : s.KeepsFlap s.inputRaised :=
  ite (fun _ => refl s) fun _ => ite (fun _ => ite (fun _ => of_eq ⟨rfl, rfl, rfl⟩) fun _ => refl s) fun _ =>
    enterOwnEgress s

theorem egressHeard (s : State) (g : Station) : s.KeepsFlap (s.egressHeard g) :=
  ite (fun _ => refl s) fun _ => enterEgress s _ _

theorem egressFlagHeard (s : State) (g : Station) : s.KeepsFlap (s.egressFlagHeard g) :=
  ite (fun _ => refl s) fun _ => enterEgress s _ _

theorem egressEndHeard (s : State) (g : Station) : s.KeepsFlap (s.egressEndHeard g) :=
  ite (fun _ => ite (fun _ => (refl s).queueEvacuation _) fun _ => leaveEgress s _ _) fun _ => refl s

theorem takeEgressEnd (s : State) : s.KeepsFlap s.takeEgressEnd.1 := by
  unfold State.takeEgressEnd
  split
  · exact refl s
  split
  · exact ((leaveEgress s _ _).queueEvacuation _).trans (of_eq ⟨rfl, rfl, rfl⟩)
  · exact refl s

theorem takeOpenWindow (s : State) : s.KeepsFlap s.takeOpenWindow.1 := by
  refine of_leads (.takeOpenWindow (.refl _)) ?_
  unfold State.takeOpenWindow
  split <;> [skip; split] <;> simp

/-- START leaves the plates as they are and gives the turn to plate A (R146). -/
theorem takeStart (s : State) : s.KeepsFlap s.takeStart.1 := by
  have begun (u : State) : u.KeepsFlap (u.setConverter u.converter.begun) :=
    setConverter (fun ⟨a, b, _⟩ => ⟨a, b, .inl rfl, rfl⟩) fun o => by cases o <;> exact id
  have started (u : State) : u.KeepsFlap (u.setConverter u.converter.begun).startLane :=
    (begun u).trans (of_leads (Barrier.Leads.startLane (.refl _)) (by simp))
  unfold State.takeStart
  split
  · have listening (p : Presence) : s.KeepsFlap ((s.setLocked true).setPresence p) := of_eq ⟨rfl, rfl, rfl⟩
    have lane := (listening { s.presence with state := .listen, listenTimer := .running Config.listenMs }).trans (started _)
    exact ite (fun _ => lane.trans (enterOwnEgress _)) fun _ => lane
  · exact refl s

theorem statusHeard (s : State) (g : Station) (w : Byte) (body : List Byte) : s.KeepsFlap (State.statusHeard g w body s) := by
  have counted : s.KeepsFlap ((s.recordStatus g w body).gateStatusHeard g w (GateStatus.ofBody body)) := of_eq (by simp)
  have viewed : s.KeepsFlap ((s.recordStatus g w body).vesselStatusHeard w body) := of_eq (by simp)
  have recorded : s.KeepsFlap (s.recordStatus g w body) := of_eq (by simp)
  have taken := ite (c := s.isVessel = true) (fun _ => counted) fun _ => ite (c := g = 0) (fun _ => viewed) fun _ => recorded
  exact ite (fun _ => taken.trans (egressFlagHeard _ g)) fun _ => taken

/-! ## Good frames, requests and the full reset -/

/-- A good frame does at the flap what its owner does there. -/
theorem heard (s : State) (g : Station) (passes : Bool) {deliver : State → State} (kept : ∀ u : State, u.KeepsFlap (deliver u)) :
    s.KeepsFlap (s.heard g passes deliver) := by
  have told : s.KeepsFlap (((s.frameTaken g).heardAtStation g).peerHeard g) := of_eq (by simp)
  exact ite (fun _ => refl s) fun _ => ite (fun _ => ite (fun _ => told.trans (kept _)) fun _ => told) fun _ =>
    of_eq ⟨rfl, rfl, rfl⟩

/-- A request does at the flap what its meaning does there. -/
theorem takeRequest {role : RequestRole} {body : State → State × Reply} (kept : s.KeepsFlap (body s).1) :
    s.KeepsFlap (s.takeRequest role body) :=
  State.takeRequest_keeps (refl s) (fun _ _ h => h.trans (of_eq ⟨rfl, rfl, rfl⟩)) fun _ => kept

theorem fullReset (s : State) (straps : Station) : s.KeepsFlap (s.fullReset straps) := by
  refine ⟨fun _ => ⟨?_, ?_, rfl⟩, fun _ => Barrier.restarted_sound .afterReset, fun _ => ?_⟩
  · exact fun drives => nomatch drives
  · exact fun closing => nomatch closing
  · exact ⟨Plate.restarted_sound .afterReset .stopped, Plate.restarted_sound .afterReset .stopped, rfl, rfl⟩

/-- A millisecond moves no flap (R192, log entry 3). -/
theorem millisecond (s : State) :
    s.KeepsFlap
      { s with
        events := { s.events with msCount := s.events.msCount + 1 }
        presence := s.presence.tick
        vessel := { s.vessel with tallyTimer := s.vessel.tallyTimer.tick }
        view := { s.view with orphanTimer := s.view.orphanTimer.tick }
        account := { s.account with waitTimer := s.account.waitTimer.tick, repeatTimer := s.account.repeatTimer.tick }
        list := { s.list with secondTimer := s.list.secondTimer.tick }
        lane := s.lane.tick
        barrier := s.barrier.tick } :=
  of_leads ⟨rfl, Barrier.sound.tick, id, .inl⟩ ⟨rfl, rfl⟩

end State.KeepsFlap

/-- When a re-drive may start (R173). -/
theorem State.reDriveDue_iff :
    s.reDriveDue = true ↔ ∃ e, s.barrier.reDrive = some e ∧
      (s.barrier.state = .opened ∨ s.barrier.state = .closed ∨ s.barrier.state = .unknown) ∧ s.barrier.movement = none ∧
      s.barrier.reDriveTimer.isRunning = false ∧ s.barrier.switch e = false ∧
      (e = .closedEnd → s.plateCondition = true) := by
  unfold State.reDriveDue
  split
  next none => simp [none]
  next e some => cases e <;> simp [some, or_assoc, and_assoc]

/-! ## The ends of a transmission do not enter or leave egress -/

@[simp] theorem State.ownerCompleted_egressState (s : State) (e : TxEntry) (f : Frame) :
    (s.ownerCompleted e f).egress.state = s.egress.state := by
  unfold State.ownerCompleted
  split <;> simp

@[simp] theorem State.ownerDropped_egressState (s : State) (e : TxEntry) :
    (s.ownerDropped e).egress.state = s.egress.state := by
  unfold State.ownerDropped
  split <;> simp

@[simp] theorem State.lose_egressState (s : State) : s.lose.egress.state = s.egress.state := by
  unfold State.lose
  repeat' split
  all_goals simp [State.loseThird]

theorem Converter.turn_of_inPhase {c : Converter} {phase : Phase} (turn : c.inPhase phase = some p) : c.turn = some p :=
  (Option.filter_eq_some_iff.1 turn).1

/-! ## Every command -/

section

open State.KeepsFlap

/-- A command of state `s` answers one that keeps its flap safe and its records sound. -/
abbrev FlapKeptBy (s : State) (o : Host.Outcome State Fault Refusal) : Prop := AnswersWith s.KeepsFlap o

theorem execHostSessionEnd_keepsFlap (s : State) (straps : Station) : FlapKeptBy s (execHostSessionEnd straps s) := by
  have port (p : HostPort) : s.KeepsFlap (s.setPort p) := of_eq ⟨rfl, rfl, rfl⟩
  exact .next (ite (fun _ => ite (fun _ => ite (fun _ => (port _).trans (fullReset _ straps)) fun _ => port _) fun _ =>
    ite (fun _ => port _) fun _ => port _) fun _ => refl s)

theorem execOwnFrameComplete_keepsFlap (s : State) : FlapKeptBy s (execOwnFrameComplete s) := by
  have completed (u : State) (e : TxEntry) (f : Frame) : u.KeepsFlap (u.ownerCompleted e f).serveDeferred :=
    trans (of_leads (Barrier.Leads.ownerCompleted (.refl _) e f) (by simp)) (of_eq (by simp))
  refine .next ?_
  split
  · exact refl s
  · exact ite (fun _ => settled (trans (setLink s _) (completed _ _ _)) s) fun _ => refl s

theorem execTransmitStart_keepsFlap (s : State) (slots : Nat) : FlapKeptBy s (execTransmitStart slots s) := by
  refine .next ?_
  split
  · exact refl s
  · exact ite (fun _ => of_eq (by simp)) fun _ => refl s

theorem execReadbackFault_keepsFlap (s : State) : FlapKeptBy s (execReadbackFault s) := by
  refine .next ?_
  split
  · exact refl s
  · exact ite (fun _ => of_eq (by simp)) fun _ => refl s

theorem execKeptDemandStart_keepsFlap (s : State) : FlapKeptBy s (execKeptDemandStart s) := by
  refine .next ?_
  split
  · exact ite (fun _ => of_eq (by simp)) fun _ => refl s
  · exact refl s

theorem execRequestFailsMessageCheck_keepsFlap (s : State) (m : List Byte) :
    FlapKeptBy s (execRequestFailsMessageCheck m s) := by
  refine .next ?_
  split
  · split
    · exact of_eq ⟨rfl, rfl, rfl⟩
    · exact refl s
  · exact refl s

theorem execSilenceTimerExpiry_keepsFlap (s : State) (peer : Station) : FlapKeptBy s (execSilenceTimerExpiry peer s) :=
  .next (ite (fun _ => settled (ite (fun _ => of_eq (by simp)) fun _ => of_eq (by simp)) s) fun _ => refl s)

theorem execClearTimerExpiry_keepsFlap (s : State) : FlapKeptBy s (execClearTimerExpiry s) :=
  .next (ite (fun _ => settled (of_leads (.closeCommand (.setLane (.refl _) _) id) (by simp)) s) fun _ => refl s)

theorem execTrackerArm_keepsFlap (s : State) : FlapKeptBy s (execTrackerArm s) := by
  have armed (l : Lane) : s.KeepsFlap (s.setLane l) := (refl s).setLane l
  have closed (l : Lane) : s.KeepsFlap (s.setLane l).closeCommand :=
    (armed l).trans (of_leads (Barrier.Leads.closeCommand (.refl _) id) (by simp))
  exact .next (ite (fun _ => settled (ite (fun _ => closed _) fun _ => armed _) s) fun _ => refl s)

theorem execZeroPhaseEnd_keepsFlap (s : State) (offset : Int) : FlapKeptBy s (execZeroPhaseEnd offset s) := by
  refine .next ?_
  split
  · exact refl s
  next p turn =>
    exact ite (fun _ => nextPhase (Converter.turn_of_inPhase turn) (.inl rfl) id rfl) fun _ =>
      (badConversion s p _).settled s

theorem execIntegratePhaseEnd_keepsFlap (s : State) : FlapKeptBy s (execIntegratePhaseEnd s) := by
  refine .next ?_
  split
  · exact refl s
  next p turn => exact nextPhase (Converter.turn_of_inPhase turn) (.inr rfl) id rfl

/-! ### The barrier driver's own commands -/

theorem execEndSwitchActive_keepsFlap (s : State) (e : EndId) : FlapKeptBy s (execEndSwitchActive e s) := by
  have switched : s.barrier.Leads (s.plateCondition = true) (s.barrier.setSwitch e true) :=
    (Barrier.Leads.refl _).setSwitch e true
  exact .next (ite (fun _ => refl s) fun _ => settled (of_leads ((switched.setBarrier s).switchActive e) (by simp)) s)

theorem execEndSwitchInactive_keepsFlap (s : State) (e : EndId) : FlapKeptBy s (execEndSwitchInactive e s) := by
  have switched : s.barrier.Leads (s.plateCondition = true) (s.barrier.setSwitch e false) :=
    (Barrier.Leads.refl _).setSwitch e false
  exact .next (ite (fun _ => ite (fun _ => (setBarrier (switched.reDrive (some e))).raise .drift _ 0 0) fun _ =>
    setBarrier switched) fun _ => refl s)

theorem execStall_keepsFlap (s : State) : FlapKeptBy s (execStall s) := by
  refine .next (ite (fun driven => settled ?_ s) fun _ => refl s)
  have moves (sound : s.barrier.sound) : s.barrier.movement ≠ none := by
    have works : s.barrier.output ≠ .off := by rcases driven with h | h <;> simp [h]
    exact sound.moves ((sound.state_of_output works).imp_right .inl)
  exact ite (fun _ => of_leads (.obstruction (.refl _) moves) (by simp)) fun _ =>
    of_leads (.stallByMode (.refl _) moves) (by simp)

theorem execBrakeTimerExpiry_keepsFlap (s : State) : FlapKeptBy s (execBrakeTimerExpiry s) :=
  .next (ite (fun ⟨_, brake⟩ => setBarrier ((Barrier.Leads.refl _).brakeEnd brake)) fun _ => .refl s)

theorem execTravelTimerExpiry_keepsFlap (s : State) : FlapKeptBy s (execTravelTimerExpiry s) := by
  refine .next (ite (fun runs => settled ?_ s) fun _ => refl s)
  have stopped : s.barrier.Leads (s.plateCondition = true) { s.barrier with travelTimer := .stopped } :=
    (Barrier.Leads.refl _).travelStopped
  have moves (sound : s.barrier.sound) : s.barrier.movement ≠ none :=
    sound.moves ((sound.state_of_travel runs).imp_right .inl)
  exact of_leads ((stopped.setBarrier s).travelByMode moves) (by simp)

theorem execPauseTimerExpiry_keepsFlap (s : State) : FlapKeptBy s (execPauseTimerExpiry s) := by
  refine .next (ite (fun ⟨_, paused⟩ => settled ?_ s) fun _ => refl s)
  have ended : s.barrier.Leads (s.plateCondition = true) { s.barrier with pauseTimer := .stopped } :=
    (Barrier.Leads.refl _).trans ⟨rfl, id, id, .inl⟩
  exact of_leads ((ended.setBarrier s).endPause paused id) (by simp)

theorem execPendingCloseTaken_keepsFlap (s : State) : FlapKeptBy s (execPendingCloseTaken s) := by
  have taken : s.barrier.Leads (s.plateCondition = true) s.commandTaken.barrier := (Barrier.Leads.refl _).commandTaken
  exact .next (ite (fun ⟨_, _, clear⟩ => settled (of_leads (taken.beginClose clear) (by simp)) s) fun _ => refl s)

theorem execReDriveStart_keepsFlap (s : State) : FlapKeptBy s (execReDriveStart s) := by
  refine .next (ite (fun due => settled ?_ s) fun _ => refl s)
  have timed : s.barrier.Leads (s.plateCondition = true) { s.barrier with reDriveTimer := .running Config.reDriveMs } :=
    (Barrier.Leads.refl _).trans ⟨rfl, id, id, .inl⟩
  obtain ⟨e, position, -, -, -, -, clear⟩ := State.reDriveDue_iff.1 due
  rw [position]
  cases e
  · exact setBarrier (timed.driveOpen .reDrive)
  · exact setBarrier (timed.driveClose .reDrive (clear rfl))

/-! ### All of them -/

/-- A frame of another station. -/
theorem exec_frame_keepsFlap (c : Instr) (hc : isFrameHeard c = true) : FlapKeptBy s (exec c s) := by
  cases c with
  | statusFrame g w b => exact .next ((heard s g _ fun u => statusHeard u g w b).settled s)
  | egressFrame g w b => exact .next ((heard s g _ fun u => egressHeard u g).settled s)
  | egressEndFrame g w b => exact .next ((heard s g _ fun u => egressEndHeard u g).settled s)
  | grantFrame g w b =>
    have granted (u : State) : u.KeepsFlap (u.grantHeard w b) := of_leads (.grantHeard (.refl _) w b) (by simp)
    exact .next ((heard s g _ fun u => ite (fun _ => granted u) fun _ => refl u).settled s)
  | offerFrame g w b => exact .next ((heard s g _ fun u => ite (fun _ => of_eq (by simp)) fun _ => refl u).settled s)
  | closeFrame g w b => exact .next ((heard s g _ fun u => ite (fun _ => of_eq (by simp)) fun _ => refl u).settled s)
  | claimFrame g w b => exact .next (heard s g _ fun u => ite (fun _ => of_eq (by simp)) fun _ => refl u)
  | tallyFrame g w b => exact .next (heard s g _ fun u => ite (fun _ => of_eq (by simp)) fun _ => refl u)
  | ticketFrame g w b => exact .next ((heard s g _ fun u => of_eq (by simp [State.ticketHeard])).settled s)
  | unknownKindFrame g k w b => exact .next (ite (fun _ => heard s g false fun u => refl u) fun _ => refl s)
  | _ => cases hc

/-- Every command but a byte of the host port. -/
theorem exec_keepsFlap_of_ne_byte (c : Instr) (hc : ∀ b, c ≠ .hostByteCompleted b) : FlapKeptBy s (exec c s) := by
  by_cases hf : isFrameHeard c = true
  · exact exec_frame_keepsFlap c hf
  cases c with
  | unknownKindFrame | statusFrame | offerFrame | closeFrame | claimFrame | grantFrame | ticketFrame | tallyFrame
  | egressFrame | egressEndFrame => exact absurd rfl hf
  | fullReset straps => exact .next (fullReset s straps)
  | hostSessionEnd straps => exact execHostSessionEnd_keepsFlap s straps
  | identify | reset | configure _ | lookup _ | query _ | readEvent | peekEvent | setMask _ | release | closeWindow
  | setOnboard _ =>
    exact .next (takeRequest (of_eq (by simp)))
  | hold | cancel _ => exact .next ((takeRequest (of_eq (by simp))).settled s)
  | start => exact .next ((takeRequest (takeStart s)).settled s)
  | laneRestart => exact .next ((takeRequest (restartLane s)).settled s)
  | clearFault => exact .next ((takeRequest (clearFaults s)).settled s)
  | egressEnd => exact .next ((takeRequest (takeEgressEnd s)).settled s)
  | present key cls party =>
    exact .next ((takeRequest (of_leads (.takePresent (.refl _) key cls party) (by simp))).settled s)
  | openWindow => exact .next ((takeRequest (takeOpenWindow s)).settled s)
  | setLaneMode mode => exact .next ((takeRequest (of_leads (.takeLaneMode (.refl _) mode) (by simp))).settled s)
  | replyReady | lineIdle | openingFlagFound | frameAbortHeard | badFrame _ | hselAsserted
  | listSecondTimerExpiry | listenTimerExpiry | isolationTimerExpiry | rollTimerExpiry | tallyTimerExpiry
  | claimRepeatTimerExpiry | loiterTimerExpiry _ =>
    exact .next (ite (fun _ => of_eq (by simp)) fun _ => of_eq (by simp))
  | orphanTimerExpiry | passageWaitExpiry => exact .next (ite (fun _ => of_eq (by simp)) fun _ => refl s)
  | claimWaitTimerExpiry =>
    exact .next (ite (fun _ => (of_leads (.endClaimWith (.refl _) _) (by simp)).settled s) fun _ => refl s)
  | selftestEnd _ => exact .next (ite (fun _ => of_eq ⟨rfl, rfl, rfl⟩) fun _ => refl s)
  | selftest =>
    exact .next (ite (fun _ => ite (fun _ => of_eq ⟨rfl, rfl, rfl⟩) fun _ => of_eq ⟨rfl, rfl, rfl⟩) fun _ => refl s)
  | lineBusy => exact .next (setLink s _)
  | egressInputInactive => exact .next (setEgressInput s false)
  | millisecondCountAdvance => exact .next (millisecond s)
  | lostArbitration => exact .next (of_eq (by simp))
  | transmitStart slots => exact execTransmitStart_keepsFlap s slots
  | readbackFault => exact execReadbackFault_keepsFlap s
  | ownFrameComplete => exact execOwnFrameComplete_keepsFlap s
  | silenceTimerExpiry peer => exact execSilenceTimerExpiry_keepsFlap s peer
  | keptDemandStart => exact execKeptDemandStart_keepsFlap s
  | clearTimerExpiry => exact execClearTimerExpiry_keepsFlap s
  | trackerArm => exact execTrackerArm_keepsFlap s
  | zeroPhaseEnd offset => exact execZeroPhaseEnd_keepsFlap s offset
  | integratePhaseEnd => exact execIntegratePhaseEnd_keepsFlap s
  | rundownCrossing r =>
    exact .phaseEnd _ (refl s) fun _ => ite (fun _ => (goodConversion s _ _).settled s) fun _ => refl s
  | rundownOverrange => exact .phaseEnd _ (refl s) fun _ => (badConversion s _ _).settled s
  | endSwitchActive e => exact execEndSwitchActive_keepsFlap s e
  | endSwitchInactive e => exact execEndSwitchInactive_keepsFlap s e
  | stall => exact execStall_keepsFlap s
  | brakeTimerExpiry => exact execBrakeTimerExpiry_keepsFlap s
  | travelTimerExpiry => exact execTravelTimerExpiry_keepsFlap s
  | pauseTimerExpiry => exact execPauseTimerExpiry_keepsFlap s
  | pendingCloseTaken => exact execPendingCloseTaken_keepsFlap s
  | reDriveStart => exact execReDriveStart_keepsFlap s
  | egressInputActive =>
    exact .next (ite (fun _ => refl s) fun _ => ((setEgressInput s true).trans (inputRaised _)).settled s)
  | hostByteCompleted b => exact absurd rfl (hc b)
  | requestFailsMessageCheck m => exact execRequestFailsMessageCheck_keepsFlap s m

theorem exec_keepsFlap (c : Instr) (s : State) : FlapKeptBy s (exec c s) := by
  cases c with
  | hostByteCompleted b =>
    refine execHostByteCompleted_answersWith (P := s.KeepsFlap) b (fun _ => id)
      (fun _ _ h => h.trans (of_eq ⟨rfl, rfl, rfl⟩)) (fun _ c u hr h => ?_) (refl s)
    obtain ⟨t, answered, kept⟩ := exec_keepsFlap_of_ne_byte (s := u) c (requestOf_ne_byte hr)
    exact ⟨t, answered, h.trans kept⟩
  | _ => exact exec_keepsFlap_of_ne_byte _ (by simp)

theorem step_keepsFlap (stepped : step s = .next t) : s.KeepsFlap t :=
  AnswersWith.of_step (Q := s.KeepsFlap) stepped (fun _ => refl s) fun c rest _ => by
    obtain ⟨u, answered, kept⟩ := exec_keepsFlap c (s.setPending rest)
    exact ⟨u, answered, (of_eq ⟨rfl, rfl, rfl⟩ : s.KeepsFlap (s.setPending rest)).trans kept⟩

end

/-- Settles O5: every command keeps the flap safe; DRIVE_CLOSE is given in CLOSING alone, so under the plate condition, and the
driver's egress mark is the egress state. -/
theorem barrierNeverClosesOnAPerson : Obligations.BarrierNeverClosesOnAPerson := by
  refine ⟨fun s t safe stepped => (step_keepsFlap stepped).safe safe, fun s safe drives => ?_⟩
  obtain ⟨closes, clear, mark⟩ := safe
  have condition := clear (closes drives)
  rw [State.plateCondition, Bool.and_eq_true, Bool.not_eq_true', mark] at condition
  refine ⟨State.platesClear_iff.1 condition.1, ?_⟩
  have outside := condition.2
  cases egress : s.egress.state
  · rfl
  · simp [State.inEgress, egress] at outside

/-- Settles O6: every command keeps the driver's record sound, and the plates' records apart from it. -/
theorem barrierAndPlatesStaySound : Obligations.BarrierAndPlatesStaySound :=
  fun _ _ driver plates stepped => ⟨(step_keepsFlap stepped).driver driver, (step_keepsFlap stepped).plates plates⟩

end Sys2Proof.Machine
end

section
/-! SUPPORT. The open and close commands by barrier state (R163, R164, R174): each answer written out, and the movements it begins. -/

namespace Sys2Proof.Machine

variable {s : State}

/-! ## What each command does in each barrier state -/

theorem State.openCommand_of_still (still : s.barrier.state = .unknown ∨ s.barrier.state = .closed ∨ s.barrier.state = .paused)
    (fromEgress : Bool) : s.openCommand fromEgress = s.commandTaken.beginOpen := by
  rcases still with state | state | state <;> rw [State.openCommand, state]

theorem State.openCommand_of_opening (state : s.barrier.state = .opening) (fromEgress : Bool) :
    s.openCommand fromEgress = s.commandTaken.movementCommanded := by
  rw [State.openCommand, state]

theorem State.openCommand_of_opened (state : s.barrier.state = .opened) (fromEgress : Bool) :
    s.openCommand fromEgress = s.commandTaken.reportOpen := by
  rw [State.openCommand, state]

theorem State.openCommand_of_closing (state : s.barrier.state = .closing) (fromEgress : Bool) :
    s.openCommand fromEgress = s.commandTaken.turnOpen := by
  rw [State.openCommand, state]

theorem State.openCommand_of_halted (state : s.barrier.state = .halted) (fromEgress : Bool) :
    s.openCommand fromEgress = if fromEgress then s.commandTaken.egressAttempt else s := by
  rw [State.openCommand, state]

theorem State.closeCommand_of_clear (clear : s.plateCondition = true)
    (still : s.barrier.state = .unknown ∨ s.barrier.state = .opened ∨ s.barrier.state = .paused) :
    s.closeCommand = s.commandTaken.beginClose := by
  rcases still with state | state | state <;> rw [State.closeCommand, state] <;> exact if_pos clear

theorem State.closeCommand_of_opening_clear (clear : s.plateCondition = true) (state : s.barrier.state = .opening) :
    s.closeCommand = s.commandTaken.turnClose := by
  rw [State.closeCommand, state]
  exact if_pos clear

theorem State.closeCommand_of_unknown_occupied (occupied : s.plateCondition = false) (state : s.barrier.state = .unknown) :
    s.closeCommand = (s.setBarrier { s.barrier with pendingClose := true }).reportReversed := by
  rw [State.closeCommand, state]
  exact if_neg (Bool.eq_false_iff.mp occupied)

theorem State.closeCommand_of_occupied (occupied : s.plateCondition = false)
    (ajar : s.barrier.state = .opened ∨ s.barrier.state = .opening ∨ s.barrier.state = .paused) :
    s.closeCommand = s.reportReversed := by
  rcases ajar with state | state | state <;> rw [State.closeCommand, state] <;>
    exact if_neg (Bool.eq_false_iff.mp occupied)

theorem State.closeCommand_of_closed (state : s.barrier.state = .closed) : s.closeCommand = s.commandTaken.reportClosed := by
  rw [State.closeCommand, state]

theorem State.closeCommand_of_closing (state : s.barrier.state = .closing) :
    s.closeCommand = s.commandTaken.movementCommanded := by
  rw [State.closeCommand, state]

theorem State.closeCommand_of_halted (state : s.barrier.state = .halted) : s.closeCommand = s := by
  rw [State.closeCommand, state]

/-! ## The obligations -/

/-- Settles O19, by the barrier state: the movement each state's command begins is, by definition, the one the statement writes out. -/
theorem openCommandByBarrierState : Obligations.OpenCommandByBarrierState := by
  intro s fromEgress taken driven arrived
  exact ⟨fun still => State.openCommand_of_still still fromEgress,
    fun opening => State.openCommand_of_opening opening fromEgress,
    fun opened => State.openCommand_of_opened opened fromEgress,
    fun closing => State.openCommand_of_closing closing fromEgress,
    fun halted => ⟨State.openCommand_of_halted halted false, State.openCommand_of_halted halted true⟩⟩

/-- Settles O20, by the plate condition and the barrier state. -/
theorem closeCommandByBarrierState : Obligations.CloseCommandByBarrierState := by
  intro s taken driven arrived
  exact ⟨fun clear => ⟨State.closeCommand_of_clear clear, State.closeCommand_of_opening_clear clear⟩,
    fun occupied => ⟨State.closeCommand_of_unknown_occupied occupied, State.closeCommand_of_occupied occupied⟩,
    State.closeCommand_of_closed, State.closeCommand_of_closing, State.closeCommand_of_halted⟩

end Sys2Proof.Machine
end

section
/-! SUPPORT. The barrier driver's own commands (R159, R165 to R173): its end switches, a stall, its timers, a pending close and a
re-drive. -/

namespace Sys2Proof.Machine

variable {s : State} {b : Barrier} {e : EndId} {m : Movement}

/-! ## End switches (R165, R172, R173) -/

theorem eq_endState_iff {x : BarrierState} :
    x = endState e ↔ (e = .openEnd ∧ x = .opened) ∨ (e = .closedEnd ∧ x = .closed) := by
  cases e <;> simp [endState]

theorem exec_endSwitchActive (inactive : s.barrier.switch e = false) :
    exec (.endSwitchActive e) s = .next (settleClear s ((s.setBarrier (s.barrier.setSwitch e true)).switchActive e)) :=
  congrArg Host.Outcome.next (if_neg (Bool.eq_false_iff.mp inactive))

theorem State.switchActive_of_conflict (conflict : s.barrier.openSwitch = true ∧ s.barrier.closedSwitch = true) :
    s.switchActive e = if s.barrier.state = .halted then s else s.halt .switch :=
  if_pos conflict

theorem Barrier.noConflict (one : b.openSwitch = false ∨ b.closedSwitch = false) :
    ¬(b.openSwitch = true ∧ b.closedSwitch = true) := by
  simpa [or_iff_not_imp_left] using one

theorem State.switchActive_of_arrival (one : s.barrier.openSwitch = false ∨ s.barrier.closedSwitch = false)
    (arrives : (e = .openEnd ∧ s.barrier.state = .opening) ∨ (e = .closedEnd ∧ s.barrier.state = .closing)) :
    s.switchActive e = s.reachEnd e := by
  rw [State.switchActive, if_neg (Barrier.noConflict one), if_pos]
  rcases arrives with ⟨rfl, state⟩ | ⟨rfl, state⟩ <;> exact state

theorem State.switchActive_of_elsewhere (one : s.barrier.openSwitch = false ∨ s.barrier.closedSwitch = false)
    (elsewhere : (e = .openEnd ∧ s.barrier.state ≠ .opening) ∨ (e = .closedEnd ∧ s.barrier.state ≠ .closing)) :
    s.switchActive e = s.setBarrier
      { s.barrier with
        unconfirmed :=
          if (e = .openEnd ∧ s.barrier.state = .opened) ∨ (e = .closedEnd ∧ s.barrier.state = .closed) then false
          else s.barrier.unconfirmed
        reDrive := if s.barrier.reDrive = some e ∧ s.barrier.movement = none then none else s.barrier.reDrive } := by
  rw [State.switchActive, if_neg (Barrier.noConflict one), if_neg]
  · simp only [eq_endState_iff]
  · rcases elsewhere with ⟨rfl, state⟩ | ⟨rfl, state⟩ <;> exact state

theorem exec_endSwitchInactive_of_reached (active : s.barrier.switch e = true)
    (reached : (e = .openEnd ∧ s.barrier.state = .opened) ∨ (e = .closedEnd ∧ s.barrier.state = .closed))
    (confirmed : s.barrier.unconfirmed = false) :
    exec (.endSwitchInactive e) s =
      .next ((s.setBarrier { s.barrier.setSwitch e false with reDrive := some e }).raise .drift (endCode e)) :=
  congrArg Host.Outcome.next ((if_pos active).trans (if_pos ⟨eq_endState_iff.2 reached, by simp [confirmed]⟩))

theorem exec_endSwitchInactive_of_elsewhere (active : s.barrier.switch e = true)
    (elsewhere : ¬((e = .openEnd ∧ s.barrier.state = .opened) ∨ (e = .closedEnd ∧ s.barrier.state = .closed)) ∨
      s.barrier.unconfirmed = true) :
    exec (.endSwitchInactive e) s = .next (s.setBarrier (s.barrier.setSwitch e false)) := by
  refine congrArg Host.Outcome.next ((if_pos active).trans (if_neg fun ⟨reached, confirmed⟩ => ?_))
  rcases elsewhere with elsewhere | unconfirmed
  · exact elsewhere (eq_endState_iff.1 reached)
  · simp [unconfirmed] at confirmed

/-! ## The fault modes (R168, R169, R174) -/

theorem State.mayRetry_iff (mode : s.config.faultMode = .retry) (moves : s.barrier.movement = some m) :
    s.mayRetry = true ↔ m.attempt = false ∧ s.barrier.retry < 3 := by
  simp only [State.mayRetry, mode, Barrier.isAttempt, moves, BEq.rfl, Bool.true_and, Bool.and_eq_true, decide_eq_true_eq,
    Option.any_some, Bool.not_eq_true', and_comm]
  exact Iff.rfl

theorem State.stallByMode_of_latch (mode : s.config.faultMode = .latch) : s.stallByMode = s.halt .stall := by
  rw [State.stallByMode, mode]

theorem State.stallByMode_of_retry (mode : s.config.faultMode = .retry) (moves : s.barrier.movement = some m) :
    s.stallByMode = if m.attempt = false ∧ s.barrier.retry < 3 then s.setBarrier s.barrier.pause else s.halt .stall := by
  rw [State.stallByMode, mode]
  exact if_congr (State.mayRetry_iff mode moves) rfl rfl

theorem State.stallByMode_of_report (mode : s.config.faultMode = .report) :
    s.stallByMode = s.raise .barrierStall (endCode s.barrier.direction) := by
  rw [State.stallByMode, mode]

theorem State.stallByMode_of_ignore (mode : s.config.faultMode = .ignore) : s.stallByMode = s := by
  rw [State.stallByMode, mode]

theorem State.travelByMode_of_latch (mode : s.config.faultMode = .latch) : s.travelByMode = s.halt .travel := by
  rw [State.travelByMode, mode]

theorem State.travelByMode_of_retry (mode : s.config.faultMode = .retry) (moves : s.barrier.movement = some m) :
    s.travelByMode = if m.attempt = false ∧ s.barrier.retry < 3 then s.setBarrier s.barrier.pause else s.halt .travel := by
  rw [State.travelByMode, mode]
  exact if_congr (State.mayRetry_iff mode moves) rfl rfl

theorem Barrier.direction_of_movement (moves : b.movement = some m) : b.direction = m.direction := by
  simp [Barrier.direction, moves]

theorem State.travelByMode_of_noHalt (mode : s.config.faultMode = .report ∨ s.config.faultMode = .ignore)
    (moves : s.barrier.movement = some m) : s.travelByMode = s.takePosition m.direction := by
  rw [← Barrier.direction_of_movement moves]
  rcases mode with mode | mode <;> rw [State.travelByMode, mode]

theorem exec_travelTimerExpiry (running : s.barrier.travelTimer.isRunning = true) :
    exec .travelTimerExpiry s =
      .next (settleClear s (s.setBarrier { s.barrier with travelTimer := .stopped }).travelByMode) :=
  congrArg Host.Outcome.next (if_pos running)

/-! ## A stall (R166, R167) -/

theorem exec_stall_of_opening (drives : s.barrier.output = .driveOpen) (opening : s.barrier.state = .opening) :
    exec .stall s = .next (settleClear s s.stallByMode) :=
  congrArg Host.Outcome.next
    ((if_pos (.inl drives)).trans (congrArg _ (if_neg (by simp [opening]))))

theorem exec_stall_of_closing (drives : s.barrier.output = .driveClose) (closing : s.barrier.state = .closing) :
    exec .stall s = .next (settleClear s s.obstruction) :=
  congrArg Host.Outcome.next ((if_pos (.inr drives)).trans (congrArg _ (if_pos closing)))

theorem Barrier.origin_of_movement (moves : b.movement = some m) : b.origin = m.origin := by
  simp [Barrier.origin, moves]

theorem Barrier.reversed_of_movement (moves : b.movement = some m) :
    b.reversed = { b.turn .openEnd m.origin with reDrive := if m.origin = .command then none else b.reDrive } := by
  rw [Barrier.reversed, Barrier.origin_of_movement moves]

theorem Barrier.unpaused_of_movement (moves : b.movement = some m) :
    b.unpaused = { b.driveOpen m.origin with reDrive := if m.origin = .command then none else b.reDrive } := by
  rw [Barrier.unpaused, Barrier.origin_of_movement moves]

/-- An obstruction counted in the closing series (R167). -/
def Barrier.obstructed (b : Barrier) : Barrier := { b with obstructions := min (b.obstructions + 1) 255 }

/-- The first two obstructions of a closing series turn the flap back (R166, R167). -/
theorem State.obstruction_of_few (closing : s.barrier.state = .closing) (few : s.barrier.obstructed.obstructions ≤ 2) :
    s.obstruction = (s.setBarrier s.barrier.obstructed.reversed).reportReversed :=
  (if_pos few).trans (State.plateBroken_of_closing closing)

/-- The third one is told to the host besides (R167). -/
theorem State.obstruction_of_third (closing : s.barrier.state = .closing) (third : s.barrier.obstructed.obstructions = 3) :
    s.obstruction =
      ((s.setBarrier s.barrier.obstructed.reversed).reportReversed).raise .obstructed s.barrier.origin.code := by
  have back := State.plateBroken_of_closing (s := s.setBarrier s.barrier.obstructed) closing
  have notFew : ¬s.barrier.obstructed.obstructions ≤ 2 := by omega
  exact (if_neg notFew).trans ((if_pos third).trans (congrArg (·.raise .obstructed s.barrier.origin.code) back))

/-- Any further one is a stall to the fault mode (R167). -/
theorem State.obstruction_of_more (more : 3 < s.barrier.obstructed.obstructions) :
    s.obstruction = (s.setBarrier s.barrier.obstructed).stallByMode := by
  have notFew : ¬s.barrier.obstructed.obstructions ≤ 2 := by omega
  exact (if_neg notFew).trans (if_neg (ne_of_gt more))

/-! ## The other timers (R159, R170) -/

theorem exec_brakeTimerExpiry (running : s.barrier.brakeTimer.isRunning = true) (brake : s.barrier.output = .brake) :
    exec .brakeTimerExpiry s = .next (s.setBarrier
      { s.barrier with
        brakeTimer := .stopped
        output := if s.barrier.state = .closing then .driveClose else .driveOpen }) :=
  congrArg Host.Outcome.next (if_pos ⟨running, brake⟩)

theorem exec_pauseTimerExpiry (running : s.barrier.pauseTimer.isRunning = true) (paused : s.barrier.state = .paused) :
    exec .pauseTimerExpiry s = .next (settleClear s (s.setBarrier { s.barrier with pauseTimer := .stopped }).endPause) :=
  congrArg Host.Outcome.next (if_pos ⟨running, paused⟩)

theorem State.endPause_of_reached (moves : s.barrier.movement = some m) (reached : s.barrier.switch m.direction = true) :
    s.endPause = s.reachEnd m.direction := by
  rw [← Barrier.direction_of_movement moves] at reached ⊢
  exact if_pos reached

theorem State.endPause_of_open (moves : s.barrier.movement = some m) (toOpen : m.direction = .openEnd)
    (inactive : s.barrier.openSwitch = false) :
    s.endPause = s.setBarrier
      { s.barrier with
        output := .driveOpen, state := .opening, pauseTimer := .stopped, travelTimer := .running Config.travelMs } := by
  have direction := (Barrier.direction_of_movement moves).trans toOpen
  simp [State.endPause, direction, Barrier.switch, inactive]

theorem State.endPause_of_closed (moves : s.barrier.movement = some m) (toClosed : m.direction = .closedEnd)
    (inactive : s.barrier.closedSwitch = false) :
    s.endPause =
      if s.plateCondition then s.setBarrier
        { s.barrier with
          output := .driveClose, state := .closing, pauseTimer := .stopped, travelTimer := .running Config.travelMs }
      else (s.setBarrier s.barrier.unpaused).reportReversed := by
  have direction := (Barrier.direction_of_movement moves).trans toClosed
  simp [State.endPause, direction, Barrier.switch, inactive]

/-! ## A pending close and a re-drive (R164, R173) -/

theorem exec_pendingCloseTaken (pending : s.barrier.pendingClose = true) (unknown : s.barrier.state = .unknown)
    (clear : s.plateCondition = true) :
    exec .pendingCloseTaken s = .next (settleClear s s.commandTaken.beginClose) :=
  congrArg Host.Outcome.next (if_pos ⟨pending, unknown, clear⟩)

theorem exec_reDriveStart (due : s.reDriveDue = true) :
    exec .reDriveStart s = .next (settleClear s
      (s.setBarrier
        (if s.barrier.reDrive = some .openEnd
          then { s.barrier with reDriveTimer := .running Config.reDriveMs }.driveOpen .reDrive
          else { s.barrier with reDriveTimer := .running Config.reDriveMs }.driveClose .reDrive))) :=
  congrArg Host.Outcome.next (if_pos due)

/-! ## The obligation -/

/-- Settles O60, command by command: each answer is the driver's operation by its equation above, and the operation is the record
the statement writes out. -/
theorem barrierCommandsAct : Obligations.BarrierCommandsAct := by
  intro s reached halted paused acts
  have reached_eq : ∀ b e, reached b e = (s.setBarrier b).reachEnd e := fun b e => by cases e <;> rfl
  have acts_of_eq : ∀ {c : Instr} {t u : State}, exec c s = .next (settleClear s t) → t = u → acts c u :=
    fun answers same => same ▸ answers
  refine ⟨fun e inactive => ⟨fun opened closed => ?conflict, fun one => ⟨fun arrives => ?arrival, fun elsewhere => ?other⟩⟩,
    fun e active => ⟨exec_endSwitchInactive_of_reached active, exec_endSwitchInactive_of_elsewhere active⟩,
    fun drives opening => ?stall, fun drives closing origin attempt moves => ?obstruction,
    fun running brake => ⟨fun opening => ?brakeOpening, fun closing => ?brakeClosing⟩,
    fun running m moves => ?travel, fun running inPause ⟨direction, origin, attempt⟩ moves => ?pause,
    fun pending unknown clear => ?pendingClose, fun e position state still rested inactive plates => ?reDrive⟩
  case conflict =>
    have answer := State.switchActive_of_conflict (s := s.setBarrier (s.barrier.setSwitch e true)) (e := e) ⟨opened, closed⟩
    have state : (s.barrier.setSwitch e true).state = s.barrier.state := by cases e <;> rfl
    exact ⟨fun running => acts_of_eq (exec_endSwitchActive inactive) (answer.trans (if_neg (state ▸ running))),
      fun atRest => acts_of_eq (exec_endSwitchActive inactive) (answer.trans (if_pos (state.trans atRest)))⟩
  case arrival =>
    rw [reached_eq]
    refine acts_of_eq (exec_endSwitchActive inactive) (State.switchActive_of_arrival one ?_)
    cases e <;> exact arrives
  case other =>
    refine acts_of_eq (exec_endSwitchActive inactive) ((State.switchActive_of_elsewhere one ?_).trans ?_)
    · cases e <;> exact elsewhere
    · cases e <;> rfl
  case stall =>
    have answer := exec_stall_of_opening drives opening
    exact ⟨fun mode => acts_of_eq answer (State.stallByMode_of_latch mode),
      fun mode m moves => acts_of_eq answer (State.stallByMode_of_retry mode moves),
      fun mode => acts_of_eq answer (State.stallByMode_of_report mode),
      fun mode => acts_of_eq answer (State.stallByMode_of_ignore mode)⟩
  case obstruction =>
    have answer := exec_stall_of_closing drives closing
    have moves' : s.barrier.obstructed.movement = some ⟨.closedEnd, origin, attempt⟩ := moves
    have back := Barrier.reversed_of_movement moves'
    refine ⟨fun few => acts_of_eq answer ((State.obstruction_of_few closing few).trans ?_),
      fun third => acts_of_eq answer ((State.obstruction_of_third closing third).trans ?_), fun more => ?_⟩
    · rw [back]; cases origin <;> rfl
    · rw [back, Barrier.origin_of_movement moves]; cases origin <;> rfl
    · have counted : s.obstruction = (s.setBarrier s.barrier.obstructed).stallByMode := State.obstruction_of_more more
      have retry := State.stallByMode_of_retry (s := s.setBarrier s.barrier.obstructed) (moves := moves')
      have report := State.stallByMode_of_report (s := s.setBarrier s.barrier.obstructed)
      rw [State.setBarrier_barrier, Barrier.direction_of_movement moves'] at report
      rw [counted] at answer
      exact ⟨fun mode => acts_of_eq answer (State.stallByMode_of_latch mode), fun mode => acts_of_eq answer (retry mode),
        fun mode => acts_of_eq answer (report mode), fun mode => acts_of_eq answer (State.stallByMode_of_ignore mode)⟩
  case brakeOpening => simpa [opening] using exec_brakeTimerExpiry running brake
  case brakeClosing => simpa [closing] using exec_brakeTimerExpiry running brake
  case travel =>
    have answer := exec_travelTimerExpiry running
    refine ⟨fun mode => acts_of_eq answer (State.travelByMode_of_latch mode),
      fun mode => acts_of_eq answer (State.travelByMode_of_retry mode moves), fun mode => ?_⟩
    rw [reached_eq]
    exact acts_of_eq answer (State.travelByMode_of_noHalt mode moves)
  case pause =>
    have answer := exec_pauseTimerExpiry running inPause
    refine ⟨fun there => ?_, fun toOpen inactive => acts_of_eq answer (State.endPause_of_open moves toOpen inactive),
      fun toClosed inactive clear => acts_of_eq answer
        ((State.endPause_of_closed moves toClosed inactive).trans (if_pos clear)),
      fun toClosed inactive occupied => acts_of_eq answer
        ((State.endPause_of_closed moves toClosed inactive).trans ((if_neg (Bool.eq_false_iff.mp occupied)).trans ?_))⟩
    · rw [reached_eq]
      refine acts_of_eq answer (State.endPause_of_reached moves ?_)
      cases direction <;> exact there
    · rw [Barrier.unpaused_of_movement moves]
      cases origin <;> rfl
  case pendingClose => exact acts_of_eq (exec_pendingCloseTaken pending unknown clear) rfl
  case reDrive =>
    have due := State.reDriveDue_iff.2 ⟨e, position, state, still, rested, inactive, plates⟩
    refine acts_of_eq (exec_reDriveStart due) ?_
    rw [position]
    cases e <;> rfl

end Sys2Proof.Machine
end

section
/-! SUPPORT. Entry to egress (R142, R178): once the lane is in EGRESS neither a refusal nor an open command moves it, so that the whole
entry comes to one lane; and with it the presentation is gone. -/

namespace Sys2Proof.Machine

variable {s : State}

/-! ## A lane in EGRESS -/

theorem State.MayHold.of_notIdle {m : Lane} (held : s.MayHold m) (busy : s.lane.state ≠ .idle) : m = s.lane :=
  held.resolve_right fun ⟨_, idle, _⟩ => busy idle

theorem State.reportOpen_of_egress (egress : s.lane.state = .egress) : s.reportOpen = s :=
  State.reportOpen_of_other (by simp [egress]) (by simp [egress])

theorem State.reportClosed_of_egress (egress : s.lane.state = .egress) : s.reportClosed = s :=
  State.reportClosed_of_other (by simp [egress]) (.inl (by simp [egress]))

theorem State.reportReversed_of_egress (egress : s.lane.state = .egress) : s.reportReversed = s :=
  State.reportReversed_of_other (by simp [egress]) (by simp [egress])

/-- The driver at the end of a movement has nothing to tell a lane in EGRESS. -/
theorem State.reachEnd_of_egress (egress : s.lane.state = .egress) (e : EndId) :
    s.reachEnd e = s.setBarrier (s.barrier.atEnd e) := by
  cases e
  · exact State.reportOpen_of_egress (s := s.setBarrier _) egress
  · exact State.reportClosed_of_egress (s := s.setBarrier _) egress

/-- An open command moves the flap alone while the lane is in EGRESS. -/
theorem State.openCommand_of_egress (egress : s.lane.state = .egress) (fromEgress : Bool) :
    ∃ b, s.openCommand fromEgress = s.setBarrier b := by
  have reached (u : State) (hu : u.lane.state = .egress) (b : Barrier) (c : Prop) [Decidable c] :
      ∃ b', (if c then u.reachEnd .openEnd else u.setBarrier b) = u.setBarrier b' := by
    split
    · exact ⟨_, State.reachEnd_of_egress hu .openEnd⟩
    · exact ⟨b, rfl⟩
  have taken : s.commandTaken.lane.state = .egress := egress
  have moved {u : State} (h : ∃ b, u = s.commandTaken.setBarrier b) : ∃ b, u = s.setBarrier b := h
  unfold State.openCommand
  cases s.barrier.state
  case opening => exact ⟨_, rfl⟩
  case opened => exact ⟨_, State.reportOpen_of_egress taken⟩
  case halted =>
    cases fromEgress
    · exact ⟨s.barrier, rfl⟩
    · exact moved (reached _ taken _ _)
  all_goals exact moved (reached _ taken _ _)

/-! ## The entry's stages -/

/-- The lane that entry to egress comes to (R142, R178). -/
def Lane.evacuated (l : Lane) : Lane :=
  { l with
    state := .egress, remaining := 0, holdPending := l.holdPending || l.state == .held, recovery := false,
    clearTimer := .stopped, passageWait := .stopped }

theorem State.laneEgress_eq (s : State) : s.laneEgress = (s.refund .egress).setLane s.lane.evacuated := by
  rw [State.laneEgress]
  dsimp only
  rw [State.refund_lane]
  rfl

theorem State.laneEgress_lane (s : State) : s.laneEgress.lane = s.lane.evacuated := by
  rw [State.laneEgress_eq]
  rfl

/-- The TICKET off the line or out of the queue, before its presentation is refused (R23, R101). -/
def State.ticketAborted (s : State) : State :=
  if s.ticketStarted then
    s.setLink
      { s.link with
        queue := s.link.queue.filter fun e => e.kind != .ticket
        txFrame := none, hunt := .hunt, buffer := [], ones := 0 }
  else s.withdraw .ticket

theorem State.abortPresentation_eq (s : State) : s.abortPresentation = s.ticketAborted.refuse .egress 0 := rfl

@[simp] theorem State.ticketAborted_frame (s : State) : OnlyLink s s.ticketAborted := by
  unfold State.ticketAborted
  split <;> simp

theorem State.refuse_of_none (free : s.admission.record = none) (reason : Reason) (detail : Nat) :
    s.refuse reason detail = s := by
  rw [State.refuse, free]

theorem State.abortPresentation_admission (s : State) : s.abortPresentation.admission.record = none := by
  rw [State.abortPresentation_eq]
  cases record : s.ticketAborted.admission.record with
  | none => rwa [State.refuse_of_none record]
  | some p => rw [(State.refuse_leaves record .egress 0).1]

theorem State.abortPresentation_lane (busy : s.lane.state ≠ .idle) : s.abortPresentation.lane = s.lane := by
  rw [State.abortPresentation_eq, (s.ticketAborted.refuse_mayHold .egress 0).of_notIdle (by simpa using busy)]
  simp

/-- The station told of egress, with EGRESS BEGAN raised. -/
def State.egressBegun (s : State) (o : EgressOrigin) (g : Station) : State :=
  (s.setEgress { s.egress with state := .egress, origin := o, endMark := false }).raise .egressBegan o.code g.toNat

/-- The lane, the admission unit and the place account past the entry. -/
def State.deskEvacuated (s : State) (o : EgressOrigin) (g : Station) : State :=
  (s.egressBegun o g).laneEgress.abortPresentation.egressReturn

theorem State.deskEvacuated_lane (s : State) (o : EgressOrigin) (g : Station) :
    (s.deskEvacuated o g).lane = s.lane.evacuated := by
  have lane : (s.egressBegun o g).laneEgress.lane = s.lane.evacuated := (s.egressBegun o g).laneEgress_lane
  have aborted := State.abortPresentation_lane (s := (s.egressBegun o g).laneEgress) (by simp [lane, Lane.evacuated])
  simp [State.deskEvacuated, aborted, lane]

theorem State.deskEvacuated_admission (s : State) (o : EgressOrigin) (g : Station) :
    (s.deskEvacuated o g).admission.record = none := by
  simp [State.deskEvacuated, State.abortPresentation_admission]

theorem State.egressStatus_eq (s : State) : s.egressStatus = if s.presence.number = 0 then s else s.statusTrigger := by
  simp only [State.egressStatus, State.isGate_iff, ne_eq, ite_not]

theorem State.egressReturn_eq (s : State) : s.egressReturn = if s.presence.number = 0 then s else s.enterReturn := by
  simp only [State.egressReturn, State.isGate_iff, ne_eq, ite_not]

theorem State.enterEgress_eq (s : State) (o : EgressOrigin) (g : Station) :
    s.enterEgress o g = ((s.deskEvacuated o g).barrierEgress.closeWindow .egress).egressStatus := rfl

/-- The flap opens for the evacuated lane, and nothing else of the gate moves. -/
theorem State.barrierEgress_of_egress (egress : s.lane.state = .egress) : ∃ b, s.barrierEgress = s.setBarrier b := by
  rw [State.barrierEgress_eq]
  exact State.openCommand_of_egress (s := s.setBarrier s.barrier.evacuated) egress true

theorem State.deskEvacuated_barrierEgress (s : State) (o : EgressOrigin) (g : Station) :
    ∃ b, (s.deskEvacuated o g).barrierEgress = (s.deskEvacuated o g).setBarrier b :=
  State.barrierEgress_of_egress (by rw [State.deskEvacuated_lane]; rfl)

theorem State.enterEgress_lane (s : State) (o : EgressOrigin) (g : Station) :
    (s.enterEgress o g).lane = s.lane.evacuated := by
  obtain ⟨b, opened⟩ := s.deskEvacuated_barrierEgress o g
  simp [State.enterEgress_eq, opened, State.deskEvacuated_lane]

theorem State.enterEgress_admission (s : State) (o : EgressOrigin) (g : Station) :
    (s.enterEgress o g).admission.record = none := by
  obtain ⟨b, opened⟩ := s.deskEvacuated_barrierEgress o g
  simp [State.enterEgress_eq, opened, State.deskEvacuated_admission]

@[simp] theorem State.enterEgress_egress (s : State) (o : EgressOrigin) (g : Station) :
    (s.enterEgress o g).egress = { s.egress with state := .egress, origin := o, endMark := false } := by
  simp [State.enterEgress]

@[simp] theorem State.leaveEgress_egress (s : State) (c : LeaveCause) (g : Station) :
    (s.leaveEgress c g).egress = { s.egress with state := .normal, origin := .none } := by
  simp [State.leaveEgress]

end Sys2Proof.Machine
end

section
/-! SUPPORT. An evacuated station stays evacuated (R178): no operation but the end of egress takes the lane out of EGRESS, authorises a
passage or makes a presentation. One lemma per operation. -/

namespace Sys2Proof.Machine

/-- The lane is in EGRESS with no passage authorised, and no presentation is held (R142, R178). -/
def State.evacuated (s : State) : Prop :=
  s.lane.state = .egress ∧ s.lane.remaining = 0 ∧ s.admission.record = none

namespace State.evacuated

variable {s t : State}

/-! ## Updates -/

theorem of_eq (h : s.evacuated) (same : t.lane = s.lane ∧ t.admission = s.admission) : t.evacuated := by
  obtain ⟨lane, admission⟩ := same
  rwa [State.evacuated, lane, admission]

theorem ite {c : Prop} [Decidable c] (hs : s.evacuated) (ht : t.evacuated) : (if c then s else t).evacuated := by
  split
  · exact hs
  · exact ht

theorem state (h : s.evacuated) : s.lane.state = .egress := h.1

theorem remaining (h : s.evacuated) : s.lane.remaining = 0 := h.2.1

theorem record (h : s.evacuated) : s.admission.record = none := h.2.2

theorem setBarrier (h : s.evacuated) (b : Barrier) : (s.setBarrier b).evacuated := h
theorem setConverter (h : s.evacuated) (c : Converter) : (s.setConverter c).evacuated := h
theorem setAccount (h : s.evacuated) (a : Account) : (s.setAccount a).evacuated := h
theorem setView (h : s.evacuated) (v : WindowView) : (s.setView v).evacuated := h
theorem setVessel (h : s.evacuated) (v : Vessel) : (s.setVessel v).evacuated := h
theorem setLink (h : s.evacuated) (l : Link) : (s.setLink l).evacuated := h
theorem setEgress (h : s.evacuated) (e : Egress) : (s.setEgress e).evacuated := h
theorem raise (h : s.evacuated) (k : EventKind) (a b c : Nat) : (s.raise k a b c).evacuated := h

theorem setLane (h : s.evacuated) (l : Lane)
    (same : l.state = s.lane.state ∧ l.remaining = s.lane.remaining := by exact ⟨rfl, rfl⟩) : (s.setLane l).evacuated :=
  ⟨same.1.trans h.state, same.2.trans h.remaining, h.record⟩

/-! ## Shared operations, and the window view (R57 to R63, R95, R99, R125) -/

/-- There is no presentation to refuse. -/
theorem refuse_eq (h : s.evacuated) (r : Reason) (d : Nat) : s.refuse r d = s := State.refuse_of_none h.record r d

theorem stopPresentation_eq (h : s.evacuated) (c : StopCause) : s.stopPresentation c = s :=
  State.stopPresentation_of_none h.record c

theorem tallyCheck (h : s.evacuated) : s.tallyCheck.evacuated := h.of_eq (by simp)

theorem statusTrigger (h : s.evacuated) : s.statusTrigger.evacuated := h.of_eq (by simp)

theorem queueKind (h : s.evacuated) (k : FrameKind) : (s.queueKind k).evacuated := h

theorem queueEvacuation (h : s.evacuated) (k : FrameKind) : (s.queueEvacuation k).evacuated := h

/-- A lane in EGRESS has no passages to refund. -/
theorem refund (h : s.evacuated) (c : RefundCause) : (s.refund c).evacuated := by
  rwa [State.refund_of_zero h.remaining]

theorem clearAccount (h : s.evacuated) : s.clearAccount.evacuated := by
  have ended : s.endClaim.evacuated := h.of_eq (by simp)
  exact ite ((ended.setAccount _).setLane _) ((ended.setAccount _).setLane _).statusTrigger

theorem leftOpen (h : s.evacuated) : s.leftOpen.evacuated := by
  rw [State.leftOpen, h.stopPresentation_eq]
  exact h.of_eq (by simp)

theorem viewClose (h : s.evacuated) : s.viewClose.evacuated :=
  (ite ((h.setView _).raise _ _ _ _).leftOpen ((h.setView _).raise _ _ _ _)).tallyCheck

theorem viewOrphan (h : s.evacuated) : s.viewOrphan.evacuated := ite ((h.setView _).raise _ _ _ _).leftOpen h

theorem viewOpen (h : s.evacuated) (w offer : Nat) : (s.viewOpen w offer).evacuated :=
  ((h.setView _).clearAccount.raise _ _ _ _).statusTrigger

theorem openShown (h : s.evacuated) (w offer : Nat) : (s.openShown w offer).evacuated := by
  unfold State.openShown
  split
  · exact ite h (h.viewOpen _ _)
  · exact ite h h.viewClose
  · exact ite ((h.setView _).raise _ _ _ _) h.viewClose
  · exact h

theorem offerHeard (h : s.evacuated) (w : Byte) (body : List Byte) : (s.offerHeard w body).evacuated := h.openShown _ _

theorem closeHeard (h : s.evacuated) (w : Byte) : (s.closeHeard w).evacuated := ite h.viewClose h

theorem vesselStatusHeard (h : s.evacuated) (w : Byte) (body : List Byte) : (s.vesselStatusHeard w body).evacuated := by
  unfold State.vesselStatusHeard
  split
  · exact h.openShown _ _
  split
  · exact ite (h.setView _) h
  · exact h.viewClose
  · exact h.viewClose
  · exact h

theorem abandon (h : s.evacuated) : s.abandon.evacuated :=
  (((h.refund _).setView _).raise _ _ _ _).clearAccount

theorem windowEnded (h : s.evacuated) (c : Bool) : (s.windowEnded c).evacuated := (h.setView _).clearAccount.raise _ _ _ _

/-! ## Claims and the GRANT (R70, R71, R91) -/

/-- The report of a claim's end finds no presentation to decide. -/
theorem endClaimWith (h : s.evacuated) (c : ClaimCause) : (s.endClaimWith c).evacuated := by
  have dropped : s.dropClaim.evacuated := h.of_eq (by simp)
  have reported : s.dropClaim.claimReport c = s.dropClaim := by rw [State.claimReport, dropped.record]
  rw [State.endClaimWith, reported, ite_self]
  exact dropped

theorem grantEndsClaim (h : s.evacuated) (remainder : Nat) : (s.grantEndsClaim remainder).evacuated :=
  ite h (ite (h.endClaimWith _) (ite (h.endClaimWith _) h))

theorem returnFree (h : s.evacuated) : s.returnFree.evacuated := h.of_eq (by simp)

theorem backgroundCheck (h : s.evacuated) : s.backgroundCheck.evacuated := h.of_eq (by simp)

theorem grantHeard (h : s.evacuated) (w : Byte) (body : List Byte) : (s.grantHeard w body).evacuated := by
  have ended (a : Account) (c : Bool) (n : Nat) :
      (if c then s.setAccount a else (s.setAccount a).grantEndsClaim n).evacuated :=
    ite (h.setAccount a) ((h.setAccount a).grantEndsClaim n)
  have returned (c : Bool) {u : State} (hu : u.evacuated) : (if c then u.returnFree else u).evacuated :=
    ite hu.returnFree hu
  exact ite (ite (returned _ (ended _ _ _)).backgroundCheck (returned _ (ended _ _ _))) h

/-! ## The barrier driver (R163 to R172) -/

theorem reportReversed (h : s.evacuated) : s.reportReversed.evacuated := by
  rwa [State.reportReversed_of_egress h.state]

theorem reportClosed (h : s.evacuated) : s.reportClosed.evacuated := by
  rwa [State.reportClosed_of_egress h.state]

theorem reachEnd (h : s.evacuated) (e : EndId) : (s.reachEnd e).evacuated := by
  rw [State.reachEnd_of_egress h.state]
  exact h.setBarrier _

theorem openCommand (h : s.evacuated) (e : Bool) : (s.openCommand e).evacuated := by
  obtain ⟨b, opened⟩ := State.openCommand_of_egress h.state e
  rw [opened]
  exact h.setBarrier b

theorem commandTaken (h : s.evacuated) : s.commandTaken.evacuated := h

theorem beginClose (h : s.evacuated) : s.beginClose.evacuated := ite (h.reachEnd _) (h.setBarrier _)

theorem closeCommand (h : s.evacuated) : s.closeCommand.evacuated := by
  have begun := h.commandTaken.beginClose
  unfold State.closeCommand
  cases s.barrier.state
  case unknown => exact ite begun (h.setBarrier _).reportReversed
  case closed => exact h.commandTaken.reportClosed
  case opening => exact ite (ite (h.commandTaken.reachEnd _) (h.commandTaken.setBarrier _)) h.reportReversed
  case closing => exact h.commandTaken.setBarrier _
  case halted => exact h
  all_goals exact ite begun h.reportReversed

theorem plateBroken (h : s.evacuated) : s.plateBroken.evacuated :=
  ite (h.setBarrier _).reportReversed (ite (h.setBarrier _).reportReversed h)

/-- A fault is recorded, and the lane stays in EGRESS (R138). -/
theorem reportFault (h : s.evacuated) (c : FaultCause) : (s.reportFault c).evacuated := by
  rw [State.reportFault_of_egress c h.state]
  exact (h.setLane _).raise _ _ _ _

theorem halt (h : s.evacuated) (c : FaultCause) : (s.halt c).evacuated := (h.setBarrier _).reportFault c

theorem stallByMode (h : s.evacuated) : s.stallByMode.evacuated := by
  unfold State.stallByMode
  cases s.config.faultMode
  case latch => exact h.halt _
  case retry => exact ite (h.setBarrier _) (h.halt _)
  case report => exact h.raise _ _ _ _
  case ignore => exact h

theorem travelByMode (h : s.evacuated) : s.travelByMode.evacuated := by
  have taken (e : EndId) : (s.takePosition e).evacuated := ((h.reachEnd e).setBarrier _).raise _ _ _ _
  unfold State.travelByMode
  cases s.config.faultMode
  case latch => exact h.halt _
  case retry => exact ite (h.setBarrier _) (h.halt _)
  all_goals exact taken _

theorem obstruction (h : s.evacuated) : s.obstruction.evacuated :=
  ite (h.setBarrier _).plateBroken (ite ((h.setBarrier _).plateBroken.raise _ _ _ _) (h.setBarrier _).stallByMode)

theorem switchActive (h : s.evacuated) (e : EndId) : (s.switchActive e).evacuated :=
  ite (ite h (h.halt _)) (ite (h.reachEnd _) (h.setBarrier _))

theorem endPause (h : s.evacuated) : s.endPause.evacuated :=
  ite (h.reachEnd _) (ite (h.setBarrier _) (ite (h.setBarrier _) (h.setBarrier _).reportReversed))

theorem clearLatch (h : s.evacuated) : s.clearLatch.evacuated :=
  ite (ite (ite ((h.setBarrier _).openCommand _) (h.setBarrier _)) (h.setBarrier _)) h

/-! ## Class changes and conversions (R127 to R133, R144, R149 to R154) -/

/-- Only an IDLE lane opens for a person on plate B. -/
theorem alightOpen_eq (h : s.evacuated) (p : PlateId) (old : PlateClass) : s.alightOpen p old = s :=
  if_neg fun ⟨_, _, _, _, idle⟩ => by simp [h.state] at idle

theorem setLoiter (h : s.evacuated) (p : PlateId) (t : Timer) : (s.setLane (s.lane.setLoiter p t)).evacuated := by
  cases p <;> exact h.setLane _

theorem loiterChange (h : s.evacuated) (p : PlateId) (old : PlateClass) : (s.loiterChange p old).evacuated :=
  ite (h.setLoiter _ _) (ite (h.setLoiter _ _) h)

/-- A passage in EGRESS is counted apart (R142). -/
theorem passageComplete (h : s.evacuated) (d : Direction) (multiple : Bool) : (s.passageComplete d multiple).evacuated := by
  rw [State.passageComplete_of_egress h.state]
  exact h.setLane _

theorem trackerHome (h : s.evacuated) : s.trackerHome.evacuated := (h.setLane _).tallyCheck

theorem trackerChange (h : s.evacuated) (p : PlateId) (old : PlateClass) : (s.trackerChange p old).evacuated := by
  cases armed : s.lane.tracker.armed
  case false => rwa [State.trackerChange_of_unarmed armed]
  by_cases within : (old == .empty) = ((s.converter.plate p).cls == .empty)
  · rw [State.trackerChange_of_within armed within]
    exact h.setLane _
  rw [State.trackerChange_of_step armed within rfl]
  have stepped (l : Tracker) (w : Timer) (done : Option (Direction × Bool)) :
      (done.elim (s.setLane { s.lane with tracker := l, passageWait := w }) fun passage =>
        (s.setLane { s.lane with tracker := l, passageWait := w }).passageComplete passage.1 passage.2).evacuated := by
    cases done
    · exact h.setLane _
    · exact (h.setLane _).passageComplete _ _
  exact ite (stepped _ _ _).trackerHome (stepped _ _ _)

theorem deliverClass (h : s.evacuated) (p : PlateId) (old : PlateClass) : (s.deliverClass p old).evacuated := by
  unfold State.deliverClass
  rw [h.alightOpen_eq]
  have told := (h.loiterChange p old).trackerChange p old
  exact ite told.plateBroken told

theorem goodConversion (h : s.evacuated) (p : PlateId) (reading : Nat) : (s.goodConversion p reading).evacuated := by
  have settled {u : State} (hu : u.evacuated) : u.settleCheck.evacuated := ite (hu.setLane _) hu
  exact settled (ite (h.setConverter _) ((h.setConverter _).deliverClass _ _))

theorem unarmTracker (h : s.evacuated) : s.unarmTracker.evacuated := (h.setLane _).tallyCheck

theorem plateFault (h : s.evacuated) (p : PlateId) (k : ConversionResult) : (s.plateFault p k).evacuated := by
  have quieted (c : Converter) := (h.setConverter c).unarmTracker.setLoiter p .stopped
  exact ((ite (quieted _) ((quieted _).deliverClass _ _)).raise _ _ _ _).reportFault _

theorem badConversion (h : s.evacuated) (p : PlateId) (k : ConversionResult) : (s.badConversion p k).evacuated :=
  ite ((h.setConverter _).plateFault _ _) (h.setConverter _)

/-! ## Requests -/

/-- No presentation is accepted at a lane that is not IDLE (R88). -/
theorem takePresent (h : s.evacuated) (key : TicketKey) (cls party : Byte) :
    (State.takePresent key cls party s).1.evacuated := by
  have refused : s.presentCheck key cls.toNat party.toNat ≠ none := by
    simp only [State.presentCheck, h.state]
    repeat' split
    all_goals simp_all
  unfold State.takePresent
  split
  next => exact h
  next accepted => exact absurd accepted refused

theorem takeCancel (h : s.evacuated) (number : Byte) : (State.takeCancel number s).1.evacuated := by
  rwa [State.takeCancel, h.record]

/-- The hold of a lane in EGRESS stays pending (R134). -/
theorem takeHold (h : s.evacuated) : s.takeHold.1.evacuated := by
  unfold State.takeHold
  split
  · exact h
  split
  · exact h
  · rw [if_neg (by simp [h.state])]
    exact h.setLane _

theorem takeRelease (h : s.evacuated) : s.takeRelease.1.evacuated := by
  unfold State.takeRelease
  rw [if_neg (by simp [h.state])]
  split
  · exact h.setLane _
  · exact h

theorem clearFaults (h : s.evacuated) : s.clearFaults.1.evacuated := by
  by_cases recorded : s.lane.faultCause = none
  · rwa [State.clearFaults_of_none (by simp [h.state]) (.inr recorded)]
  · rw [State.clearFaults, if_neg (by simp [h.state]), if_pos ⟨h.state, recorded⟩]
    exact ((h.setConverter _).setLane _).clearLatch.raise _ _ _ _

theorem restartLane (h : s.evacuated) : s.restartLane.1.evacuated := by
  rwa [State.restartLane_of_refused (.inr h.state)]

theorem takeFlow (h : s.evacuated) : s.takeFlow.evacuated := by
  have flows := h.unarmTracker
  unfold State.takeFlow
  split
  · exact h
  split
  · exact h.setLane _
  · dsimp only
    rw [State.setLane_lane, flows.state]
    exact flows.setLane _ ⟨flows.state.symm, rfl⟩

theorem takeAlight (h : s.evacuated) : s.takeAlight.evacuated :=
  ite h (h.setLane _ ⟨if_neg (by simp [h.state]), rfl⟩)

theorem takeLaneMode (h : s.evacuated) (mode : Byte) : (State.takeLaneMode mode s).1.evacuated := by
  unfold State.takeLaneMode
  split
  · exact h
  split
  · exact h
  · exact ite h.takeFlow h.takeAlight

theorem takeOpenWindow (h : s.evacuated) : s.takeOpenWindow.1.evacuated := by
  unfold State.takeOpenWindow
  split
  · exact h
  split
  · exact h
  · exact ((((h.setVessel _).takeFlow.queueKind _).setVessel _).statusTrigger).raise _ _ _ _

/-! ## The list and the transmit queue (R15 to R20, R97, R109) -/

theorem ticketHeard (h : s.evacuated) (g : Station) (w : Byte) (body : List Byte) :
    (State.ticketHeard g w body s).evacuated := by
  rw [State.ticketHeard, State.peerTicket_of_none h.record]
  exact h.of_eq (by simp)

theorem requeueMarked (h : s.evacuated) (e : TxEntry) : (s.requeueMarked e).evacuated := h.of_eq (by simp)

theorem ownerDropped (h : s.evacuated) (e : TxEntry) : (s.ownerDropped e).evacuated := by
  unfold State.ownerDropped
  split
  · rwa [h.refuse_eq]
  · exact h.of_eq (by simp)
  · exact h.windowEnded _
  · exact h.setEgress _
  all_goals exact h

theorem loseOnce (h : s.evacuated) (e : TxEntry) (rest : List TxEntry) : (s.loseOnce e rest).evacuated := by
  unfold State.loseOnce
  dsimp only
  split
  · exact ((h.setLink _).refuse_eq _ _).symm ▸ h.setLink _
  · exact h.setLink _

theorem lose (h : s.evacuated) : s.lose.evacuated := by
  have reported (e : TxEntry) : (s.dropReport e).evacuated := h.of_eq (by simp)
  have third (e : TxEntry) (rest : List TxEntry) : (s.loseThird e rest).evacuated :=
    (((reported e).setLink _).ownerDropped e).requeueMarked e
  unfold State.lose
  split
  · exact h
  · exact ite ((ite (h.loseOnce _ _) (third _ _)).setLink _) h

/-- An own TICKET that completes has no presentation to admit. -/
theorem ticketCompleted (h : s.evacuated) (e : TxEntry) : (s.ticketCompleted e).evacuated := by
  rw [State.ticketCompleted, h.record]
  dsimp only
  split
  · exact h.of_eq (by simp)
  · exact h

theorem ownerCompleted (h : s.evacuated) (e : TxEntry) (f : Frame) : (s.ownerCompleted e f).evacuated := by
  unfold State.ownerCompleted
  split
  · exact h.of_eq (by simp)
  · exact h.of_eq (by simp)
  · exact h.ticketCompleted e
  · exact h.windowEnded _
  · exact h.setEgress _
  all_goals exact h

theorem settled (h : t.evacuated) (s : State) : (settleClear s t).evacuated :=
  ite (ite h (h.setLane _)) (h.setLane _)

end State.evacuated

theorem State.enterEgress_evacuated (s : State) (o : EgressOrigin) (g : Station) : (s.enterEgress o g).evacuated := by
  refine ⟨?_, ?_, s.enterEgress_admission o g⟩ <;> rw [State.enterEgress_lane] <;> rfl

end Sys2Proof.Machine
end

section
/-! SUPPORT. Egress at every step (R176 to R181): a command leaves the egress unit and an evacuated station as they are, or enters or
leaves egress as a whole. -/

namespace Sys2Proof.Machine

variable {s t : State}

/-- What R178 asks, by egress state: in egress the station is evacuated, its origin is named, and it has left SETUP; outside egress
no origin is named. -/
structure State.EgressHolds (s : State) : Prop where
  inside : s.egress.state = .egress → s.evacuated ∧ s.egress.origin ≠ .none ∧ s.presence.state ≠ .setup
  outside : s.egress.state = .normal → s.egress.origin = .none

theorem State.egressSound_iff : s.egressSound ↔ s.EgressHolds := by
  cases egress : s.egress.state
  case normal =>
    rw [State.egressSound, if_neg (by simp [egress])]
    exact ⟨fun h => ⟨by simp [egress], fun _ => h⟩, fun h => h.outside egress⟩
  case egress =>
    rw [State.egressSound, if_pos egress]
    refine ⟨fun ⟨state, remaining, record, rest⟩ => ⟨fun _ => ⟨⟨state, remaining, record⟩, rest⟩, by simp [egress]⟩, fun h => ?_⟩
    obtain ⟨⟨state, remaining, record⟩, rest⟩ := h.inside egress
    exact ⟨state, remaining, record, rest⟩

@[simp] theorem State.ownerDropped_origin (s : State) (e : TxEntry) :
    (s.ownerDropped e).egress.origin = s.egress.origin := by
  unfold State.ownerDropped
  split <;> simp

@[simp] theorem State.ownerCompleted_origin (s : State) (e : TxEntry) (f : Frame) :
    (s.ownerCompleted e f).egress.origin = s.egress.origin := by
  unfold State.ownerCompleted
  split <;> simp

@[simp] theorem State.lose_origin (s : State) : s.lose.egress.origin = s.egress.origin := by
  unfold State.lose
  repeat' split
  all_goals simp [State.loseThird]

@[simp] theorem State.takeOpenWindow_frame (s : State) :
    s.takeOpenWindow.1.egress = s.egress ∧ s.takeOpenWindow.1.presence = s.presence := by
  unfold State.takeOpenWindow
  split <;> [skip; split] <;> simp

namespace State.EgressHolds

/-! ## What keeps it -/

/-- The egress unit keeps state and origin, the station does not return to SETUP, and it stays evacuated. -/
theorem keeps (h : s.EgressHolds) (unit : t.egress.state = s.egress.state ∧ t.egress.origin = s.egress.origin)
    (started : t.presence.state = .setup → s.presence.state = .setup) (calm : s.evacuated → t.evacuated) : t.EgressHolds := by
  obtain ⟨state, origin⟩ := unit
  refine ⟨fun egress => ?_, fun normal => origin.trans (h.outside (state ▸ normal))⟩
  obtain ⟨evacuated, named, left⟩ := h.inside (state ▸ egress)
  exact ⟨calm evacuated, origin ▸ named, mt started left⟩

/-- The operations of the other blocks leave the egress unit and the presence unit alone. -/
theorem stays (h : s.EgressHolds) (same : t.egress = s.egress ∧ t.presence = s.presence) (calm : s.evacuated → t.evacuated) :
    t.EgressHolds :=
  h.keeps (by simp [same.1]) (by simp [same.2]) calm

/-- Nothing that it is about changes. -/
theorem of_eq (h : s.EgressHolds)
    (same : t.egress = s.egress ∧ t.presence = s.presence ∧ t.lane = s.lane ∧ t.admission = s.admission) : t.EgressHolds :=
  h.stays ⟨same.1, same.2.1⟩ fun calm => calm.of_eq same.2.2

theorem ite {c : Prop} [Decidable c] (hs : c → s.EgressHolds) (ht : ¬c → t.EgressHolds) : (if c then s else t).EgressHolds := by
  split
  · exact hs ‹_›
  · exact ht ‹_›

/-- An operation made on a condition. -/
theorem applyIf {c : Prop} [Decidable c] (h : s.EgressHolds) (ht : t.EgressHolds) : (if c then t else s).EgressHolds :=
  ite (fun _ => ht) fun _ => h

theorem settled (h : t.EgressHolds) (s : State) : (settleClear s t).EgressHolds := h.stays (by simp) (·.settled s)

/-! ## The egress unit (R177, R178, R180, R181) -/

theorem enterEgress (s : State) {o : EgressOrigin} (g : Station) (named : o ≠ .none) (started : s.presence.state ≠ .setup) :
    (s.enterEgress o g).EgressHolds :=
  ⟨fun _ => ⟨s.enterEgress_evacuated o g, by simpa using named, by simpa using started⟩, by simp⟩

theorem leaveEgress (s : State) (c : LeaveCause) (g : Station) : (s.leaveEgress c g).EgressHolds :=
  ⟨by simp, by simp⟩

theorem queueEvacuation (h : s.EgressHolds) (k : FrameKind) : (s.queueEvacuation k).EgressHolds := h.of_eq ⟨rfl, rfl, rfl, rfl⟩

theorem enterOwnEgress (started : s.presence.state ≠ .setup) : s.enterOwnEgress.EgressHolds :=
  (enterEgress s s.presence.number (by decide) started).queueEvacuation .egress

theorem egressHeard (h : s.EgressHolds) (g : Station) (started : s.presence.state ≠ .setup) : (s.egressHeard g).EgressHolds :=
  ite (fun _ => h) fun _ => enterEgress s g (by decide) started

theorem egressFlagHeard (h : s.EgressHolds) (g : Station) (started : s.presence.state ≠ .setup) :
    (s.egressFlagHeard g).EgressHolds :=
  ite (fun _ => h) fun _ => enterEgress s g (by decide) started

theorem egressEndHeard (h : s.EgressHolds) (g : Station) : (s.egressEndHeard g).EgressHolds :=
  ite (fun _ => ite (fun _ => h.queueEvacuation _) fun _ => leaveEgress s _ g) fun _ => h

/-- The input's level is no part of it (R179). -/
theorem setInput (h : s.EgressHolds) (active : Bool) : (s.setEgress { s.egress with input := active }).EgressHolds :=
  h.keeps ⟨rfl, rfl⟩ id id

/-- An own input takes the origin of egress over from a peer (R177). -/
theorem ownOrigin (h : s.EgressHolds) (egress : s.egress.state = .egress) :
    (s.setEgress { s.egress with origin := .own }).EgressHolds := by
  obtain ⟨evacuated, -, left⟩ := h.inside egress
  exact ⟨fun _ => ⟨evacuated, by simp, left⟩, by simp [egress]⟩

theorem inputRaised (h : s.EgressHolds) : s.inputRaised.EgressHolds :=
  ite (fun _ => h) fun started => ite (fun egress => ite (fun _ => (h.ownOrigin (State.inEgress_iff.1 egress)).queueEvacuation _)
    fun _ => h) fun _ => enterOwnEgress started

theorem takeEgressEnd (h : s.EgressHolds) : s.takeEgressEnd.1.EgressHolds := by
  have ended := (leaveEgress s .request s.presence.number).queueEvacuation .egressEnd
  unfold State.takeEgressEnd
  split
  · exact h
  split
  · exact ended.keeps ⟨rfl, rfl⟩ id id
  · exact h

/-- START finds a station outside egress, and leaves it there or enters egress past SETUP. -/
theorem takeStart (h : s.EgressHolds) : s.takeStart.1.EgressHolds := by
  unfold State.takeStart
  split
  next setup =>
    refine ite (fun _ => enterOwnEgress (by simp)) fun _ => ⟨fun egress => ?_, fun normal => ?_⟩
    · have left := (h.inside (by simpa using egress)).2.2
      exact absurd setup left
    · simpa using h.outside (by simpa using normal)
  next => exact h

/-! ## Good frames and requests -/

/-- The presence unit's part of a good frame, and then what its owner does past SETUP. -/
theorem heard (h : s.EgressHolds) (g : Station) (passes : Bool) {deliver : State → State}
    (owner : ∀ u : State, u.EgressHolds → u.presence.state ≠ .setup → (deliver u).EgressHolds) :
    (s.heard g passes deliver).EgressHolds := by
  have told : (((s.frameTaken g).heardAtStation g).peerHeard g).EgressHolds :=
    h.keeps (by simp) (by simp) (·.of_eq (by simp))
  refine ite (fun _ => h) fun _ => ite (fun reported => ?_) fun _ => h.of_eq ⟨rfl, rfl, rfl, rfl⟩
  have started : s.presence.state ≠ .setup := by
    simp only [State.isReported, Bool.and_eq_true, bne_iff_ne] at reported
    exact reported.1
  exact ite (fun _ => owner _ told (by simpa using started)) fun _ => told

theorem statusHeard (h : s.EgressHolds) (g : Station) (w : Byte) (body : List Byte) (started : s.presence.state ≠ .setup) :
    (State.statusHeard g w body s).EgressHolds := by
  have recorded : (s.recordStatus g w body).EgressHolds :=
    h.keeps ⟨rfl, rfl⟩ (by simp [State.recordStatus, Presence.setPeer]) id
  have taken : ((if s.isVessel then (s.recordStatus g w body).gateStatusHeard g w (GateStatus.ofBody body)
      else if g = 0 then (s.recordStatus g w body).vesselStatusHeard w body else s.recordStatus g w body)).EgressHolds :=
    ite (fun _ => recorded.of_eq (by simp)) fun _ => ite (fun _ => recorded.stays (by simp) (·.vesselStatusHeard w body))
      fun _ => recorded
  have left : (s.recordStatus g w body).presence.state ≠ .setup := started
  refine ite (fun _ => taken.egressFlagHeard g ?_) fun _ => taken
  split <;> [skip; split] <;> simpa using left

theorem takeRequest (h : s.EgressHolds) {role : RequestRole} {body : State → State × Reply} (kept : (body s).1.EgressHolds) :
    (s.takeRequest role body).EgressHolds :=
  State.takeRequest_keeps h (fun _ _ h => h.of_eq ⟨rfl, rfl, rfl, rfl⟩) fun _ => kept

/-- A request that the egress unit does not own. -/
theorem takeRequest_stays (h : s.EgressHolds) {role : RequestRole} {body : State → State × Reply}
    (same : (body s).1.egress = s.egress ∧ (body s).1.presence = s.presence) (calm : s.evacuated → (body s).1.evacuated) :
    (s.takeRequest role body).EgressHolds :=
  h.takeRequest (h.stays same calm)

end State.EgressHolds

/-! ## Every command -/

section

open State.EgressHolds

/-- A command answers a state whose egress holds. -/
abbrev EgressAfter (o : Host.Outcome State Fault Refusal) : Prop := AnswersWith State.EgressHolds o

theorem fullReset_egressHolds (s : State) (straps : Station) : (s.fullReset straps).EgressHolds :=
  ⟨fun egress => (nomatch egress), fun _ => rfl⟩

theorem setPort_egressHolds (h : s.EgressHolds) (p : HostPort) : (s.setPort p).EgressHolds := h.of_eq ⟨rfl, rfl, rfl, rfl⟩

theorem execHostSessionEnd_egressAfter (h : s.EgressHolds) (straps : Station) : EgressAfter (execHostSessionEnd straps s) := by
  have port (p : HostPort) : (s.setPort p).EgressHolds := setPort_egressHolds h p
  exact .next (ite (fun _ => ite (fun _ => ite (fun _ => fullReset_egressHolds _ straps) fun _ => port _) fun _ =>
    ite (fun _ => port _) fun _ => port _) fun _ => h)

theorem execOwnFrameComplete_egressAfter (h : s.EgressHolds) : EgressAfter (execOwnFrameComplete s) := by
  have completed (l : Link) (e : TxEntry) (f : Frame) : ((s.setLink l).ownerCompleted e f).serveDeferred.EgressHolds :=
    h.keeps (by simp) (by simp) fun calm => ((calm.setLink l).ownerCompleted e f).setLink _
  refine .next ?_
  split
  · exact h
  · exact h.applyIf ((completed _ _ _).settled s)

theorem execTransmitStart_egressAfter (h : s.EgressHolds) (slots : Nat) : EgressAfter (execTransmitStart slots s) := by
  refine .next ?_
  split
  · exact h
  · exact h.applyIf (h.of_eq (by simp))

theorem lose_egressHolds (h : s.EgressHolds) : s.lose.EgressHolds := h.keeps (by simp) (by simp) (·.lose)

theorem execReadbackFault_egressAfter (h : s.EgressHolds) : EgressAfter (execReadbackFault s) := by
  have hunting : (s.setLink s.link.hunting).EgressHolds := h.of_eq ⟨rfl, rfl, rfl, rfl⟩
  refine .next ?_
  split
  · exact h
  · exact h.applyIf ((lose_egressHolds hunting).settled s)

theorem execKeptDemandStart_egressAfter (h : s.EgressHolds) : EgressAfter (execKeptDemandStart s) := by
  refine .next ?_
  split
  · exact h.applyIf (h.of_eq (by simp))
  · exact h

theorem execRequestFailsMessageCheck_egressAfter (h : s.EgressHolds) (m : List Byte) :
    EgressAfter (execRequestFailsMessageCheck m s) := by
  refine .next ?_
  split
  · split
    · exact setPort_egressHolds h _
    · exact h
  · exact h

theorem execSilenceTimerExpiry_egressAfter (h : s.EgressHolds) (peer : Station) :
    EgressAfter (execSilenceTimerExpiry peer s) := by
  have lost : (s.peerSilent peer).EgressHolds := h.keeps ⟨rfl, rfl⟩ id id
  exact .next (h.applyIf (.settled (lost.applyIf (lost.stays (by simp) (·.viewOrphan))) s))

/-- The lane commands the barrier closed in a state that is EGRESS where it was. -/
theorem laneCloses_egressHolds (h : s.EgressHolds) (l : Lane) (state : s.lane.state = .egress → l.state = .egress)
    (remaining : l.remaining = s.lane.remaining) : (s.setLane l).closeCommand.EgressHolds :=
  h.stays (by simp) fun calm => (calm.setLane l ⟨(state calm.state).trans calm.state.symm, remaining⟩).closeCommand

theorem execClearTimerExpiry_egressAfter (h : s.EgressHolds) : EgressAfter (execClearTimerExpiry s) :=
  .next (h.applyIf ((laneCloses_egressHolds h _ (by simp +contextual) (by rfl)).settled s))

theorem execTrackerArm_egressAfter (h : s.EgressHolds) : EgressAfter (execTrackerArm s) := by
  have armed (l : Lane) (same : l.state = s.lane.state ∧ l.remaining = s.lane.remaining) :
      (s.setLane l).EgressHolds :=
    h.stays ⟨rfl, rfl⟩ (·.setLane l same)
  exact .next (h.applyIf (.settled (ite (fun _ => laneCloses_egressHolds h _ (by exact id) (by rfl)) fun _ =>
    armed _ (by exact ⟨rfl, rfl⟩)) s))

theorem execZeroPhaseEnd_egressAfter (h : s.EgressHolds) (offset : Int) : EgressAfter (execZeroPhaseEnd offset s) :=
  .phaseEnd _ h fun _ => ite (fun _ => h.of_eq ⟨rfl, rfl, rfl, rfl⟩) fun _ =>
    (h.stays (by simp) (·.badConversion _ _)).settled s

/-- A frame of another station. -/
theorem exec_frame_egressAfter (c : Instr) (hc : isFrameHeard c = true) (h : s.EgressHolds) : EgressAfter (exec c s) := by
  cases c with
  | statusFrame g w b => exact .next ((h.heard g _ fun _ hu left => hu.statusHeard g w b left).settled s)
  | egressFrame g w b => exact .next ((h.heard g _ fun _ hu left => hu.egressHeard g left).settled s)
  | egressEndFrame g w b => exact .next ((h.heard g _ fun _ hu _ => hu.egressEndHeard g).settled s)
  | grantFrame g w b =>
    exact .next ((h.heard g _ fun _ hu _ => hu.applyIf (hu.stays (by simp) (·.grantHeard w b))).settled s)
  | offerFrame g w b =>
    exact .next ((h.heard g _ fun _ hu _ => hu.applyIf (hu.stays (by simp) (·.offerHeard w b))).settled s)
  | closeFrame g w b =>
    exact .next ((h.heard g _ fun _ hu _ => hu.applyIf (hu.stays (by simp) (·.closeHeard w))).settled s)
  | claimFrame g w b => exact .next (h.heard g _ fun _ hu _ => hu.applyIf (hu.of_eq (by simp)))
  | tallyFrame g w b => exact .next (h.heard g _ fun _ hu _ => hu.applyIf (hu.of_eq (by simp)))
  | ticketFrame g w b =>
    exact .next ((h.heard g _ fun _ hu _ => hu.stays (by simp [State.ticketHeard]) (·.ticketHeard g w b)).settled s)
  | unknownKindFrame g k w b => exact .next (h.applyIf (h.heard g false fun _ hu _ => hu))
  | _ => cases hc

/-- Every command but a byte of the host port. -/
theorem exec_egressAfter_of_ne_byte (c : Instr) (hc : ∀ b, c ≠ .hostByteCompleted b) (h : s.EgressHolds) :
    EgressAfter (exec c s) := by
  by_cases hf : isFrameHeard c = true
  · exact exec_frame_egressAfter c hf h
  cases c with
  | unknownKindFrame | statusFrame | offerFrame | closeFrame | claimFrame | grantFrame | ticketFrame | tallyFrame
  | egressFrame | egressEndFrame => exact absurd rfl hf
  | fullReset straps => exact .next (fullReset_egressHolds s straps)
  | hostSessionEnd straps => exact execHostSessionEnd_egressAfter h straps
  | identify | reset | configure _ | lookup _ | query _ | readEvent | peekEvent | setMask _ | closeWindow | setOnboard _ =>
    exact .next (h.takeRequest (h.of_eq (by simp)))
  | release => exact .next (h.takeRequest_stays (by simp) (·.takeRelease))
  | hold => exact .next ((h.takeRequest_stays (by simp) (·.takeHold)).settled s)
  | cancel number => exact .next ((h.takeRequest_stays (by simp) (·.takeCancel number)).settled s)
  | present key cls party => exact .next ((h.takeRequest_stays (by simp) (·.takePresent key cls party)).settled s)
  | laneRestart => exact .next ((h.takeRequest_stays (by simp) (·.restartLane)).settled s)
  | clearFault => exact .next ((h.takeRequest_stays (by simp) (·.clearFaults)).settled s)
  | openWindow => exact .next ((h.takeRequest_stays (by simp) (·.takeOpenWindow)).settled s)
  | setLaneMode mode => exact .next ((h.takeRequest_stays (by simp) (·.takeLaneMode mode)).settled s)
  | start => exact .next ((h.takeRequest h.takeStart).settled s)
  | egressEnd => exact .next ((h.takeRequest h.takeEgressEnd).settled s)
  | replyReady | lineIdle | openingFlagFound | frameAbortHeard | badFrame _ | hselAsserted | listSecondTimerExpiry
  | rollTimerExpiry | tallyTimerExpiry | claimRepeatTimerExpiry | brakeTimerExpiry =>
    exact .next (ite (fun _ => h.keeps (by simp) (by simp) (·.of_eq (by simp))) fun _ =>
      h.keeps (by simp) (by simp) (·.of_eq (by simp)))
  | listenTimerExpiry | isolationTimerExpiry => exact .next (h.applyIf (h.keeps (by simp) (by simp) (·.of_eq (by simp))))
  | selftestEnd _ => exact .next (h.applyIf (h.of_eq ⟨rfl, rfl, rfl, rfl⟩))
  | loiterTimerExpiry p => exact .next (h.applyIf (h.stays (by simp) fun calm => (calm.setLoiter p _).raise _ _ _ _))
  | selftest =>
    exact .next (h.applyIf (ite (fun _ => h.of_eq ⟨rfl, rfl, rfl, rfl⟩) fun _ => setPort_egressHolds h _))
  | lineBusy => exact .next (h.of_eq ⟨rfl, rfl, rfl, rfl⟩)
  | millisecondCountAdvance => exact .next (h.keeps ⟨rfl, rfl⟩ id id)
  | transmitStart slots => exact execTransmitStart_egressAfter h slots
  | lostArbitration => exact .next ((lose_egressHolds h).settled s)
  | readbackFault => exact execReadbackFault_egressAfter h
  | ownFrameComplete => exact execOwnFrameComplete_egressAfter h
  | silenceTimerExpiry peer => exact execSilenceTimerExpiry_egressAfter h peer
  | keptDemandStart => exact execKeptDemandStart_egressAfter h
  | orphanTimerExpiry => exact .next (h.applyIf ((h.stays (by simp) (·.abandon)).settled s))
  | passageWaitExpiry => exact .next (h.applyIf ((h.stays (by simp) (·.refund _)).settled s))
  | claimWaitTimerExpiry => exact .next (h.applyIf ((h.stays (by simp) (·.endClaimWith _)).settled s))
  | clearTimerExpiry => exact execClearTimerExpiry_egressAfter h
  | trackerArm => exact execTrackerArm_egressAfter h
  | zeroPhaseEnd offset => exact execZeroPhaseEnd_egressAfter h offset
  | integratePhaseEnd => exact .phaseEnd _ h fun _ => h.of_eq ⟨rfl, rfl, rfl, rfl⟩
  | rundownCrossing r =>
    exact .phaseEnd _ h fun _ => h.applyIf ((h.stays (by simp) (·.goodConversion _ _)).settled s)
  | rundownOverrange => exact .phaseEnd _ h fun _ => (h.stays (by simp) (·.badConversion _ _)).settled s
  | endSwitchActive e =>
    exact .next (ite (fun _ => h) fun _ => (h.stays (by simp) fun calm => (calm.setBarrier _).switchActive e).settled s)
  | endSwitchInactive e => exact .next (h.applyIf (ite (fun _ => h.of_eq (by simp)) fun _ => h.of_eq (by simp)))
  | stall =>
    exact .next (h.applyIf (.settled (ite (fun _ => h.stays (by simp) (·.obstruction)) fun _ =>
      h.stays (by simp) (·.stallByMode)) s))
  | travelTimerExpiry =>
    exact .next (h.applyIf ((h.stays (by simp) fun calm => (calm.setBarrier _).travelByMode).settled s))
  | pauseTimerExpiry => exact .next (h.applyIf ((h.stays (by simp) fun calm => (calm.setBarrier _).endPause).settled s))
  | pendingCloseTaken =>
    exact .next (h.applyIf ((h.stays (by simp) fun calm => calm.commandTaken.beginClose).settled s))
  | reDriveStart =>
    have driven (b : Barrier) : (s.setBarrier b).EgressHolds := h.of_eq ⟨rfl, rfl, rfl, rfl⟩
    exact .next (h.applyIf ((driven _).settled s))
  | egressInputActive => exact .next (ite (fun _ => h) fun _ => (h.setInput true).inputRaised.settled s)
  | egressInputInactive => exact .next (h.setInput false)
  | hostByteCompleted b => exact absurd rfl (hc b)
  | requestFailsMessageCheck m => exact execRequestFailsMessageCheck_egressAfter h m

theorem exec_egressAfter (c : Instr) (h : s.EgressHolds) : EgressAfter (exec c s) := by
  cases c with
  | hostByteCompleted b =>
    exact execHostByteCompleted_answersWith (P := State.EgressHolds) b (fun _ => id) (fun _ p hu => setPort_egressHolds hu p)
      (fun _ c _ hr => exec_egressAfter_of_ne_byte c (requestOf_ne_byte hr)) h
  | _ => exact exec_egressAfter_of_ne_byte _ (by simp) h

end

/-- Settles O13: a command enters egress with the station evacuated, keeps it so, or leaves egress with its origin forgotten. -/
theorem egressHoldsNothing : Obligations.EgressHoldsNothing := by
  intro s t sound stepped
  have holds := State.egressSound_iff.1 sound
  exact State.egressSound_iff.2 (AnswersWith.of_step (Q := State.EgressHolds) stepped (fun _ => holds) fun c rest _ =>
    exec_egressAfter c (holds.of_eq (t := s.setPending rest) ⟨rfl, rfl, rfl, rfl⟩))

end Sys2Proof.Machine
end

section
/-! SUPPORT. Leaving egress (R142, R180, R181): the request EGRESS END by input and egress state, an EGRESS END frame by the same, and
what the end of egress makes of the lane. -/

namespace Sys2Proof.Machine

section Leaving

variable {s : State} {g : Station}

/-! ## The end of egress (R142, R180) -/

/-- The lane at the end of egress: in FAULT on a recorded cause, else in FLOW or OPEN (R142). -/
theorem State.laneEgressEnd_eq (s : State) :
    s.laneEgressEnd =
      if s.lane.faultCause = none then
        s.setLane { s.lane with state := if s.presence.number = 0 ∧ s.lane.mode = .flow then .flow else .opened }
      else
        let faulted := s.setLane { s.lane with state := .fault, clearTimer := .stopped }
        if s.presence.number = 0 then faulted else (faulted.stopPresentation .laneUnavailable).enterReturn := by
  unfold State.laneEgressEnd
  cases s.lane.faultCause with
  | none => simp only [State.flowMode_iff, if_true]
  | some cause => simp only [State.isGate_iff, ne_eq, ite_not, reduceCtorEq, if_false]

/-- The presentation that a recorded fault stops lets no hold take effect, since the lane is in FAULT. -/
theorem State.laneEgressEnd_lane (s : State) :
    s.laneEgressEnd.lane =
      if s.lane.faultCause = none then
        { s.lane with state := if s.presence.number = 0 ∧ s.lane.mode = .flow then .flow else .opened }
      else { s.lane with state := .fault, clearTimer := .stopped } := by
  have stopped := (State.stopPresentation_mayHold (s.setLane { s.lane with state := .fault, clearTimer := .stopped })
    .laneUnavailable).of_notIdle (by simp)
  rw [State.laneEgressEnd_eq]
  split
  · rfl
  · dsimp only
    split
    · rfl
    · simpa using stopped

/-- With no presentation to stop the end of egress raises nothing at the lane. -/
theorem State.laneEgressEnd_events (free : s.admission.record = none) : s.laneEgressEnd.events = s.events := by
  rw [State.laneEgressEnd_eq]
  split
  · rfl
  · dsimp only
    rw [State.stopPresentation_of_none (by simpa using free)]
    split <;> simp

/-- The egress unit and the barrier driver told, before the lane (log entry 5). -/
def State.egressCleared (s : State) : State :=
  (s.setEgress { s.egress with state := .normal, origin := .none }).setBarrier { s.barrier with egressMark := false }

/-- Egress left, with EGRESS ENDED raised for a cause. -/
def State.egressLeft (s : State) (cause : Nat) (g : Station) : State :=
  let told := s.egressCleared.laneEgressEnd.raise .egressEnded s.lane.egressPassages cause g.toNat
  (told.setLane { told.lane with egressPassages := 0 }).egressStatus

theorem State.egressLeft_eq (s : State) (cause : Nat) (g : Station) :
    s.egressLeft cause g =
      let told := s.egressCleared.laneEgressEnd.raise .egressEnded s.lane.egressPassages cause g.toNat
      let counted := told.setLane { told.lane with egressPassages := 0 }
      if s.presence.number = 0 then counted else counted.statusTrigger := by
  rw [State.egressLeft, State.egressStatus_eq]
  simp only [State.setLane_presence, State.raise_frame, State.laneEgressEnd_frame]
  rfl

theorem State.leaveEgress_eq (s : State) (cause : LeaveCause) (g : Station) :
    s.leaveEgress cause g = s.egressLeft cause.code g := by
  have passages : s.egressCleared.laneEgressEnd.lane.egressPassages = s.lane.egressPassages := by
    rw [State.laneEgressEnd_lane]
    split <;> rfl
  rw [State.egressLeft, ← passages]
  rfl

theorem State.egressLeft_lane (s : State) (cause : Nat) (g : Station) :
    (s.egressLeft cause g).lane = { s.egressCleared.laneEgressEnd.lane with egressPassages := 0 } := by
  simp [State.egressLeft]

@[simp] theorem State.egressLeft_units (s : State) (cause : Nat) (g : Station) :
    (s.egressLeft cause g).egress = { s.egress with state := .normal, origin := .none } ∧
      (s.egressLeft cause g).barrier = { s.barrier with egressMark := false } := by
  simp [State.egressLeft, State.egressCleared]

theorem State.egressLeft_events (free : s.admission.record = none) (cause : Nat) (g : Station) :
    (s.egressLeft cause g).events =
      s.events.raise .egressEnded (word16 s.lane.egressPassages) (word16 cause) (word16 g.toNat) := by
  have told : s.egressCleared.laneEgressEnd.events = s.events := State.laneEgressEnd_events (s := s.egressCleared) free
  simp [State.egressLeft, State.raise, told]

/-! ## The request (R180) -/

theorem State.takeEgressEnd_of_active (active : s.egress.input = true) : s.takeEgressEnd = (s, ⟨2, [24, 0]⟩) := if_pos active

theorem State.takeEgressEnd_of_normal (inactive : s.egress.input = false) (normal : s.egress.state = .normal) :
    s.takeEgressEnd = (s, ⟨2, [17, 0]⟩) :=
  (if_neg (by simp [inactive])).trans (if_neg (by simp [State.inEgress, normal]))

theorem State.takeEgressEnd_of_egress (inactive : s.egress.input = false) (egress : s.egress.state = .egress) :
    s.takeEgressEnd =
      let t := (s.egressLeft 1 s.presence.number).queueEvacuation .egressEnd
      (t.setEgress { t.egress with endMark := true }, ⟨1, []⟩) := by
  rw [State.takeEgressEnd, if_neg (by simp [inactive]), if_pos (State.inEgress_iff.2 egress), State.leaveEgress_eq]
  rfl

theorem exec_egressEnd (hc : s.canTake = true) :
    exec .egressEnd s = .next (settleClear s (s.takeEgressEnd.1.reply s.takeEgressEnd.2)) :=
  congrArg (Host.Outcome.next <| settleClear s ·) (State.takeRequest_both hc)

/-! ## The frame (R181) -/

theorem exec_egressEndFrame (h : s.hears g) :
    exec (.egressEndFrame g 0 []) s = .next (settleClear s ((s.delivered g).egressEndHeard g)) :=
  congrArg (Host.Outcome.next <| settleClear s ·) (s.heard_of_hears g _ h)

theorem State.egressEndHeard_of_normal (normal : s.egress.state = .normal) : s.egressEndHeard g = s :=
  if_neg (by simp [State.inEgress, normal])

theorem State.egressEndHeard_of_active (egress : s.egress.state = .egress) (active : s.egress.input = true) :
    s.egressEndHeard g = s.queueEvacuation .egress :=
  (if_pos (State.inEgress_iff.2 egress)).trans (if_pos active)

theorem State.egressEndHeard_of_inactive (egress : s.egress.state = .egress) (inactive : s.egress.input = false) :
    s.egressEndHeard g = s.egressLeft 2 g := by
  rw [State.egressEndHeard, if_pos (State.inEgress_iff.2 egress), if_neg (by simp [inactive]), State.leaveEgress_eq]
  rfl

end Leaving

/-- Settles O43: the statement's way of leaving is `State.egressLeft`; the request and the frame by input and egress state. -/
theorem egressIsLeft : Obligations.EgressIsLeft := by
  unfold Obligations.EgressIsLeft
  intro left
  have leaves (u : State) (cause : Nat) (g : Station) : left u cause g = u.egressLeft cause g := by
    rw [State.egressLeft_eq, State.laneEgressEnd_eq]
    rfl
  simp only [leaves]
  refine ⟨fun s hc => ⟨fun active => ?_, fun inactive normal => ?_, fun inactive egress => ?_⟩,
    fun s g h => ⟨fun normal => ?_, fun egress active => ?_, fun egress inactive => ?_⟩, fun u cause g => ?_⟩
  · rw [exec_egressEnd hc, State.takeEgressEnd_of_active active]
  · rw [exec_egressEnd hc, State.takeEgressEnd_of_normal inactive normal]
  · rw [exec_egressEnd hc, State.takeEgressEnd_of_egress inactive egress]
  · rw [exec_egressEndFrame h, State.egressEndHeard_of_normal (by simpa using normal)]
  · rw [exec_egressEndFrame h, State.egressEndHeard_of_active (by simpa using egress) (by simpa using active)]
  · rw [exec_egressEndFrame h, State.egressEndHeard_of_inactive (by simpa using egress) (by simpa using inactive)]
  · refine ⟨by simp, by simp, by simp, by simp, ?_, ?_, fun recorded => ?_, fun free => State.egressLeft_events free cause g⟩
    all_goals rw [State.egressLeft_lane, State.laneEgressEnd_lane]
    · split <;> rfl
    · exact (if_neg (by exact recorded)).symm ▸ rfl

end Sys2Proof.Machine
end

section
/-! SUPPORT. What entry to egress leaves on the line (R23, R101): no TICKET in the queue, and where one was SENDING nothing of its frame;
the operations around the abort change neither. One lemma per operation. -/

namespace Sys2Proof.Machine

/-! ## Entries that a change of the queue keeps -/

/-- A TICKET is queued. -/
def Link.hasTicket (l : Link) : Bool := l.queue.any fun e => e.kind == .ticket

theorem Link.hasTicket_eq_false {l : Link} : l.hasTicket = false ↔ ∀ e ∈ l.queue, e.kind ≠ .ticket := any_kind_eq_false

variable {l : Link} {k : FrameKind} {q : List TxEntry} {p : TxEntry → Bool}

/-- A change of requeue marks alone is not seen by a test of the other fields. -/
theorem any_map_requeue {c : TxEntry → Prop} [DecidablePred c] {mark : Bool}
    (blind : ∀ e b, p { e with requeue := b } = p e) :
    (q.map fun e => if c e then { e with requeue := mark } else e).any p = q.any p := by
  rw [List.any_map]
  congr 1
  funext e
  dsimp only [Function.comp]
  split
  · exact blind e mark
  · rfl

theorem Link.queueKind_any (blind : ∀ e b, p { e with requeue := b } = p e) (fresh : p (TxEntry.fresh k) = false) :
    (l.queueKind k).queue.any p = l.queue.any p := by
  unfold Link.queueKind
  split
  · exact any_map_requeue blind
  · simp [fresh]

theorem Link.withdraw_any (blind : ∀ e b, p { e with requeue := b } = p e) :
    (l.withdraw k).queue.any p = (l.queue.filter fun e => !(e.kind == k && !e.sending)).any p :=
  any_map_requeue blind

theorem Link.queueKind_ticketSending (l : Link) (k : FrameKind) :
    ((l.queueKind k).queue.any fun e => e.kind == .ticket && e.sending) =
      l.queue.any fun e => e.kind == .ticket && e.sending :=
  Link.queueKind_any (fun _ _ => rfl) (by simp [TxEntry.fresh])

theorem Link.queueKind_hasTicket (l : Link) (other : k ≠ .ticket) : (l.queueKind k).hasTicket = l.hasTicket :=
  Link.queueKind_any (fun _ _ => rfl) (by simp [TxEntry.fresh, other])

/-- A SENDING entry stays as its kind is withdrawn (R22). -/
theorem Link.withdraw_ticketSending (l : Link) (k : FrameKind) :
    ((l.withdraw k).queue.any fun e => e.kind == .ticket && e.sending) =
      l.queue.any fun e => e.kind == .ticket && e.sending := by
  rw [Link.withdraw_any fun _ _ => rfl, List.any_filter]
  congr 1
  funext e
  cases e.sending <;> simp

theorem Link.withdraw_hasTicket (none : l.hasTicket = false) (k : FrameKind) : (l.withdraw k).hasTicket = false := by
  rw [Link.hasTicket, Link.withdraw_any fun _ _ => rfl]
  exact List.any_eq_false.2 fun e he => List.any_eq_false.1 none e (List.mem_of_mem_filter he)

/-! ## The relation -/

/-- `t` has the own TICKET SENDING where `s` has, no TICKET where `s` has none, and the receiver and the frame on the line of `s`. -/
structure State.KeepsLine (s t : State) : Prop where
  started : t.ticketStarted = s.ticketStarted
  ticketless : s.link.hasTicket = false → t.link.hasTicket = false
  frame : t.link.txFrame = s.link.txFrame
  hunt : t.link.hunt = s.link.hunt
  buffer : t.link.buffer = s.link.buffer

namespace State.KeepsLine

variable {r s t : State}

theorem of_eq (h : r.KeepsLine s) (same : t.link = s.link) : r.KeepsLine t := by
  obtain ⟨started, ticketless, frame, hunt, buffer⟩ := h
  rw [← same] at ticketless frame hunt buffer
  refine ⟨?_, ticketless, frame, hunt, buffer⟩
  rw [← started, State.ticketStarted, State.ticketStarted, State.isSending, State.isSending, same]

theorem refl (s : State) : s.KeepsLine s := ⟨rfl, id, rfl, rfl, rfl⟩

theorem ite {c : Prop} [Decidable c] (hs : r.KeepsLine s) (ht : r.KeepsLine t) : r.KeepsLine (if c then s else t) := by
  split
  · exact hs
  · exact ht

theorem setAccount (h : r.KeepsLine s) (a : Account) : r.KeepsLine (s.setAccount a) := h.of_eq rfl
theorem setAdmission (h : r.KeepsLine s) (a : Admission) : r.KeepsLine (s.setAdmission a) := h.of_eq rfl
theorem setLane (h : r.KeepsLine s) (l : Lane) : r.KeepsLine (s.setLane l) := h.of_eq rfl
theorem setView (h : r.KeepsLine s) (v : WindowView) : r.KeepsLine (s.setView v) := h.of_eq rfl
theorem setVessel (h : r.KeepsLine s) (v : Vessel) : r.KeepsLine (s.setVessel v) := h.of_eq rfl
theorem raise (h : r.KeepsLine s) (k : EventKind) (a b c : Nat) : r.KeepsLine (s.raise k a b c) := h.of_eq rfl

/-! ## The operations of an entry -/

theorem queueKind (h : r.KeepsLine s) {k : FrameKind} (other : k ≠ .ticket) : r.KeepsLine (s.queueKind k) := by
  obtain ⟨started, ticketless, frame, hunt, buffer⟩ := h
  refine ⟨(s.link.queueKind_ticketSending k).trans started, fun none => ?_, ?_, ?_, ?_⟩
  · exact (s.link.queueKind_hasTicket other).trans (ticketless none)
  all_goals
    rw [State.queueKind, State.setLink_link, Link.queueKind]
    split <;> assumption

theorem withdraw (h : r.KeepsLine s) (k : FrameKind) : r.KeepsLine (s.withdraw k) :=
  ⟨(s.link.withdraw_ticketSending k).trans h.started, fun none => Link.withdraw_hasTicket (h.ticketless none) k, h.frame,
    h.hunt, h.buffer⟩

theorem statusTrigger (h : r.KeepsLine s) : r.KeepsLine s.statusTrigger := ite (h.queueKind (by decide)) h

theorem returnFree (h : r.KeepsLine s) : r.KeepsLine s.returnFree := ite h (h.setAccount _).statusTrigger

theorem backgroundCheck (h : r.KeepsLine s) : r.KeepsLine s.backgroundCheck :=
  ite ((h.setAccount _).queueKind (by decide)) h

theorem endClaim (h : r.KeepsLine s) : r.KeepsLine s.endClaim := ite h ((h.setAccount _).withdraw _)

theorem enterReturn (h : r.KeepsLine s) : r.KeepsLine s.enterReturn := h.endClaim.returnFree

theorem tallyCheck (h : r.KeepsLine s) : r.KeepsLine s.tallyCheck := ite ((h.queueKind (by decide)).setView _) h

theorem refundAccount (h : r.KeepsLine s) (n : Nat) : r.KeepsLine (s.refundAccount n) :=
  ite (h.setAccount _).returnFree (h.setAccount _).backgroundCheck

theorem refund (h : r.KeepsLine s) (c : RefundCause) : r.KeepsLine (s.refund c) :=
  ite h ((ite ((h.setLane _).refundAccount _) (h.setLane _)).raise _ _ _ _).tallyCheck

theorem laneEgress (h : r.KeepsLine s) : r.KeepsLine s.laneEgress := (h.refund _).setLane _

theorem lapse (h : r.KeepsLine s) : r.KeepsLine s.lapse := ite (h.setAccount _).returnFree (h.setAccount _)

theorem holdCheck (h : r.KeepsLine s) : r.KeepsLine s.holdCheck := ite ((h.setLane _).enterReturn.raise _ _ _ _) h

theorem refuse (h : r.KeepsLine s) (reason : Reason) (detail : Nat) : r.KeepsLine (s.refuse reason detail) := by
  cases record : s.admission.record with
  | none => exact h.of_eq (by simp [State.refuse, record])
  | some p =>
    rw [State.refuse_eq record]
    exact ((((ite (h.withdraw _).lapse h).setAccount _).raise _ _ _ _).setAdmission _).holdCheck

theorem overCapacityCheck (h : r.KeepsLine s) : r.KeepsLine s.overCapacityCheck := ite (h.raise _ _ _ _) h

theorem completionCheck (h : r.KeepsLine s) : r.KeepsLine s.completionCheck :=
  ite ((h.setVessel _).raise _ _ _ _).statusTrigger.overCapacityCheck h

theorem closeWindow (h : r.KeepsLine s) (c : CloseCause) : r.KeepsLine (s.closeWindow c) :=
  ite (((h.queueKind (by decide)).setVessel _).statusTrigger.raise _ _ _ _).completionCheck h

end State.KeepsLine

/-! ## The abort and the whole entry (R23, R101) -/

variable {s : State}

theorem State.ticketAborted_hasTicket (s : State) : s.ticketAborted.link.hasTicket = false := by
  rw [Link.hasTicket_eq_false, State.ticketAborted]
  split
  next => exact fun e he => by simpa using (List.mem_filter.1 he).2
  next waiting => exact Link.withdraw_ticket_gone (State.notSending_of_not_started waiting)

/-- A TICKET that was SENDING is off the line, and the own receiver is in HUNT (R23). -/
theorem State.ticketAborted_line (started : s.ticketStarted = true) :
    s.ticketAborted.link.txFrame = none ∧ s.ticketAborted.link.hunt = .hunt ∧ s.ticketAborted.link.buffer = [] := by
  rw [State.ticketAborted, if_pos started]
  exact ⟨rfl, rfl, rfl⟩

/-- What follows the abort in an entry to egress. -/
theorem State.enterEgress_keepsLine (s : State) (o : EgressOrigin) (g : Station) :
    (s.egressBegun o g).laneEgress.ticketAborted.KeepsLine (s.enterEgress o g) := by
  obtain ⟨b, opened⟩ := s.deskEvacuated_barrierEgress o g
  have refused := (State.KeepsLine.refl (s.egressBegun o g).laneEgress.ticketAborted).refuse .egress 0
  have desk : (s.egressBegun o g).laneEgress.ticketAborted.KeepsLine (s.deskEvacuated o g) := .ite refused.enterReturn refused
  have closed := (desk.of_eq (t := (s.deskEvacuated o g).setBarrier b) rfl).closeWindow .egress
  rw [State.enterEgress_eq, opened]
  exact .ite closed.statusTrigger closed

theorem State.enterEgress_hasTicket (s : State) (o : EgressOrigin) (g : Station) :
    (s.enterEgress o g).link.hasTicket = false :=
  (s.enterEgress_keepsLine o g).ticketless (State.ticketAborted_hasTicket _)

theorem State.enterEgress_line (started : s.ticketStarted = true) (o : EgressOrigin) (g : Station) :
    (s.enterEgress o g).link.txFrame = none ∧ (s.enterEgress o g).link.hunt = .hunt ∧
      (s.enterEgress o g).link.buffer = [] := by
  have still : (s.egressBegun o g).laneEgress.ticketStarted = true :=
    ((State.KeepsLine.refl s).of_eq (t := s.egressBegun o g) rfl).laneEgress.started.trans started
  obtain ⟨-, -, frame, hunt, buffer⟩ := s.enterEgress_keepsLine o g
  obtain ⟨frame', hunt', buffer'⟩ := State.ticketAborted_line still
  exact ⟨frame.trans frame', hunt.trans hunt', buffer.trans buffer'⟩

/-- A gate past LISTEN has STATUS queued (R37). -/
theorem State.egressStatus_queued (gate : s.presence.number ≠ 0)
    (sends : s.presence.state = .active ∨ s.presence.state = .isolated) : ∃ e ∈ s.egressStatus.link.queue, e.kind = .status := by
  have may : s.mayTransmit = true := by simpa [State.mayTransmit] using sends
  rw [State.egressStatus_eq, if_neg gate, State.statusTrigger, if_pos may, State.queueKind, State.setLink_link,
    Link.queueKind]
  split
  next present =>
    obtain ⟨e, he, status⟩ := List.any_eq_true.1 present
    refine ⟨_, List.mem_map_of_mem he, ?_⟩
    split <;> simpa using status
  next => exact ⟨TxEntry.fresh .status, by simp, rfl⟩

end Sys2Proof.Machine
end

section
/-! SUPPORT. The place account and the events of a station that enters egress (R65, R79, R83, R101, R178). -/

namespace Sys2Proof.Machine

section Entering

variable {s : State} {p : Presentation} {reason : Reason} {detail : Nat}

/-! ## Returns in the return state (R65, R79) -/

theorem State.returnFree_returned (inView : s.view.state ≠ .none) :
    s.returnFree.account.returned = s.account.returned + s.freeCredits := by
  unfold State.returnFree
  split
  next nothing => rw [nothing.resolve_left inView, Nat.add_zero]
  next => simp

theorem State.endClaim_returned (s : State) : s.endClaim.account.returned = s.account.returned := by
  unfold State.endClaim
  split <;> simp [State.dropClaim, State.withdraw]

/-- The gate's free credits are returned as it enters its return state. -/
theorem State.enterReturn_returned (inView : s.view.state ≠ .none) :
    s.enterReturn.account.returned = s.account.returned + s.freeCredits := by
  have free : s.endClaim.freeCredits = s.freeCredits := by simp [State.freeCredits, State.held, State.endClaim_returned]
  rw [State.enterReturn, State.returnFree_returned (by simpa using inView), free, State.endClaim_returned]

theorem State.lapse_returned (returning : s.inReturnState = true) (inView : s.view.state ≠ .none) :
    s.lapse.account.returned = s.account.returned + s.held := by
  have lapsed : s.lapse = (s.setAccount { s.account with reserved := 0 }).returnFree := if_pos returning
  rw [lapsed]
  exact State.returnFree_returned inView

/-! ## The refund and the refusal in egress (R65, R83, R95) -/

theorem State.refund_events (s : State) (cause : RefundCause) :
    (s.refund cause).events =
      if s.lane.remaining = 0 then s.events
      else s.events.raise .passageExpired (word16 s.lane.remaining) (word16 cause.code) (word16 0) := by
  unfold State.refund
  split
  · rfl
  · dsimp only
    split <;> simp [State.raise]

/-- The account's side of a refund in egress: the passages are held again, and every free credit goes back. -/
theorem State.refund_account (gate : s.presence.number ≠ 0) (egress : s.egress.state = .egress) (cause : RefundCause) :
    (s.refund cause).account.charged = s.account.charged - s.lane.remaining ∧
      (s.refund cause).account.reserved = s.account.reserved ∧
      (s.view.state ≠ .none →
        (s.refund cause).account.returned = s.account.returned ∨
          (s.refund cause).account.returned = s.account.returned +
            (s.account.granted - s.account.returned - (s.account.charged - s.lane.remaining) - s.account.reserved)) := by
  by_cases none : s.lane.remaining = 0
  · simp [State.refund_of_zero none, none]
  have account : (s.refund cause).account = (s.passagesEnded.refundAccount s.lane.remaining).account := by
    rw [State.refund_of_gate none gate]
    dsimp only
    split <;> simp
  rw [account, State.refundAccount_eq (by simpa using gate), if_pos (.inr (.inr (by simpa using egress)))]
  exact ⟨by simp, by simp, fun inView => .inr (State.returnFree_returned inView)⟩

/-- What a refusal in egress makes of the account: a reservation lapses, and what it frees goes back. -/
theorem State.refuse_account (record : s.admission.record = some p) (returning : s.inReturnState = true)
    (busy : s.lane.state ≠ .idle) :
    (s.refuse reason detail).account.reserved = (if p.state = .awaitLink then 0 else s.account.reserved) ∧
      (s.view.state ≠ .none → (s.refuse reason detail).account.returned =
        s.account.returned + if p.state = .awaitLink then s.held else 0) := by
  have lane : (s.refused p reason detail).lane = s.lane := by simp [State.refused]
  rw [State.refuse_eq record, State.holdCheck_of_notDue (.inl (lane ▸ busy))]
  by_cases awaiting : p.state = .awaitLink
  · have lapsed (inView : s.view.state ≠ .none) : (s.withdraw .ticket).lapse.account.returned = s.account.returned + s.held :=
      State.lapse_returned (s := s.withdraw .ticket) returning inView
    simpa [State.refused, State.ticketReleased, awaiting] using lapsed
  · simp [State.refused, State.ticketReleased, awaiting]

/-- The abort by egress at a gate: the reservation of a presentation in AWAIT_LINK lapses. -/
theorem State.abortPresentation_account (returning : s.inReturnState = true) (busy : s.lane.state ≠ .idle) :
    let linked := s.admission.record.any fun p => p.state == .awaitLink
    s.abortPresentation.account.granted = s.account.granted ∧ s.abortPresentation.account.charged = s.account.charged ∧
      s.abortPresentation.account.reserved = (if linked then 0 else s.account.reserved) ∧
      (s.view.state ≠ .none →
        s.abortPresentation.account.returned = s.account.returned + if linked then s.held else 0) := by
  intro linked
  have held : s.ticketAborted.held = s.held := by simp [State.held]
  have stillReturning : s.ticketAborted.inReturnState = true := by
    simpa [State.inReturnState, State.isGate, State.isVessel, State.inEgress] using returning
  rw [State.abortPresentation_eq]
  cases record : s.admission.record with
  | none => simp [State.refuse_of_none (s := s.ticketAborted) (by simpa using record), linked, record]
  | some p =>
    have aborted : s.ticketAborted.admission.record = some p := by simpa using record
    obtain ⟨-, charged, granted, -⟩ := State.refuse_leaves aborted .egress 0
    obtain ⟨reserved, returned⟩ :=
      State.refuse_account (reason := .egress) (detail := 0) aborted stillReturning (by simpa using busy)
    rw [held] at returned
    simpa [charged, granted, reserved, linked, record] using returned

theorem State.abortPresentation_events (busy : s.lane.state ≠ .idle) :
    s.abortPresentation.events =
      s.admission.record.elim s.events fun p => s.events.raise .refused (word16 p.number) 2 0 := by
  rw [State.abortPresentation_eq]
  cases record : s.admission.record with
  | none => simp [State.refuse_of_none (s := s.ticketAborted) (by simpa using record)]
  | some p =>
    have aborted : s.ticketAborted.admission.record = some p := by simpa using record
    rw [(State.refuse_of_noHold aborted (.inl (by simpa using busy)) .egress 0).2.2, (State.ticketAborted_frame s).2.2.2.1]
    rfl

/-! ## The desk of an evacuated gate -/

variable {o : EgressOrigin} {g : Station}

theorem State.egressBegun_laneEgress_busy : (s.egressBegun o g).laneEgress.lane.state ≠ .idle := by
  simp [State.laneEgress_lane, Lane.evacuated]

theorem State.egressBegun_laneEgress_frame (s : State) (o : EgressOrigin) (g : Station) :
    (s.egressBegun o g).laneEgress.admission = s.admission ∧ (s.egressBegun o g).laneEgress.view.state = s.view.state ∧
      (s.egressBegun o g).laneEgress.presence = s.presence ∧
      (s.egressBegun o g).laneEgress.egress.state = .egress := by
  simp [State.laneEgress_eq, State.egressBegun]

theorem State.egressBegun_laneEgress_account (gate : s.presence.number ≠ 0) :
    let t := (s.egressBegun o g).laneEgress
    let charged := s.account.charged - s.lane.remaining
    t.account.granted = s.account.granted ∧ t.account.charged = charged ∧ t.account.reserved = s.account.reserved ∧
      (s.view.state ≠ .none → t.account.returned = s.account.returned ∨ t.account.returned =
        s.account.returned + (s.account.granted - s.account.returned - charged - s.account.reserved)) := by
  intro t charged
  have account : t.account = ((s.egressBegun o g).refund .egress).account := by
    rw [show t = _ from State.laneEgress_eq _]
    rfl
  rw [account]
  exact ⟨by simp [State.egressBegun], State.refund_account (s := s.egressBegun o g) gate rfl .egress⟩

/-- The places of a gate past the entry: the remaining passages and the reservation of a lapsed presentation are free again, and
all that is free is returned (R79, R83). -/
theorem State.deskEvacuated_account (gate : s.presence.number ≠ 0) :
    let charged := s.account.charged - s.lane.remaining
    let reserved := if s.admission.record.any (fun p => p.state == .awaitLink) then 0 else s.account.reserved
    (s.deskEvacuated o g).account.claim = .none ∧ (s.deskEvacuated o g).account.granted = s.account.granted ∧
      (s.deskEvacuated o g).account.charged = charged ∧ (s.deskEvacuated o g).account.reserved = reserved ∧
      (s.view.state ≠ .none → (s.deskEvacuated o g).account.returned =
        s.account.returned + (s.account.granted - s.account.returned - charged - reserved)) := by
  intro charged reserved
  obtain ⟨granted₁, charged₁, reserved₁, returned₁⟩ := State.egressBegun_laneEgress_account gate (o := o) (g := g)
  obtain ⟨record, view, presence, egress⟩ := s.egressBegun_laneEgress_frame o g
  have busy := s.egressBegun_laneEgress_busy (o := o) (g := g)
  have desk : s.deskEvacuated o g = (s.egressBegun o g).laneEgress.abortPresentation.enterReturn := by
    rw [State.deskEvacuated, State.egressReturn_eq, if_neg (by simpa [State.egressBegun] using gate)]
  rw [desk]
  generalize (s.egressBegun o g).laneEgress = t at *
  have returning : t.inReturnState = true := (State.inReturnState_iff (presence ▸ gate)).2 (.inr (.inr egress))
  obtain ⟨granted₂, charged₂, reserved₂, returned₂⟩ := State.abortPresentation_account returning busy
  rw [record] at reserved₂ returned₂
  rw [view] at returned₂
  refine ⟨by simp [State.enterReturn], ?_, ?_, ?_, fun inView => ?_⟩
  · simp [State.enterReturn, granted₂, granted₁]
  · simp [State.enterReturn, charged₂, charged₁, charged]
  · simp [State.enterReturn, reserved₂, reserved₁, reserved]
  · have seen : t.abortPresentation.view.state ≠ .none := by simpa [State.abortPresentation_eq, view] using inView
    have freed := returned₁ inView
    rw [State.enterReturn_returned seen, State.freeCredits, State.held, granted₂, charged₂, reserved₂, returned₂ inView,
      State.held, granted₁, charged₁, reserved₁]
    dsimp only [charged, reserved]
    split <;> omega

end Entering
end Sys2Proof.Machine
end

section
/-! SUPPORT. The flap, the window and the STATUS past an entry to egress (R48, R162, R174, R178), and the ways in (R177). -/

namespace Sys2Proof.Machine

variable {s : State} {o : EgressOrigin} {g : Station}

/-! ## The stages by station (R178) -/

/-- A refund moves neither the hold mark nor the lane's state. -/
theorem State.laneEgress_of_refunded (s : State) :
    s.laneEgress =
      let refunded := s.refund .egress
      refunded.setLane
        { refunded.lane with
          state := .egress, holdPending := s.lane.holdPending || s.lane.state == .held, recovery := false,
          clearTimer := .stopped, passageWait := .stopped } := by
  simp only [State.laneEgress, State.refund_lane]

theorem State.evacuated_presence (s : State) (o : EgressOrigin) (g : Station) :
    ((s.deskEvacuated o g).barrierEgress.closeWindow .egress).presence = s.presence := by
  simp [State.deskEvacuated, State.egressBegun]

/-- The return and the STATUS are a gate's. -/
theorem State.enterEgress_of_number (s : State) (o : EgressOrigin) (g : Station) :
    s.enterEgress o g =
      let aborted := (s.egressBegun o g).laneEgress.abortPresentation
      let returned := if s.presence.number = 0 then aborted else aborted.enterReturn
      let closed := returned.barrierEgress.closeWindow .egress
      if s.presence.number = 0 then closed else closed.statusTrigger := by
  have aborted : (s.egressBegun o g).laneEgress.abortPresentation.presence = s.presence := by simp [State.egressBegun]
  rw [State.enterEgress_eq, State.egressStatus_eq, State.evacuated_presence, State.deskEvacuated, State.egressReturn_eq, aborted]

/-! ## The flap (R162, R174) -/

/-- The flap opens or stands open. -/
def Barrier.opens (b : Barrier) : Prop := b.state = .opening ∨ b.state = .opened

theorem State.reachEnd_opens (s : State) : (s.reachEnd .openEnd).barrier.opens :=
  .inr (by simp [State.reachEnd, Barrier.atEnd, endState])

/-- An open command that is taken at once, by the OPEN switch. -/
theorem State.driven_opens {c : Prop} [Decidable c] {b : Barrier} (driven : b.state = .opening) :
    (if c then s.reachEnd .openEnd else s.setBarrier b).barrier.opens := by
  split
  · exact s.reachEnd_opens
  · exact .inl driven

/-- An open command of the egress unit is taken in every barrier state, in HALTED as one attempt (R174). -/
theorem State.openCommand_opens (s : State) : (s.openCommand true).barrier.opens := by
  cases state : s.barrier.state
  case opening =>
    rw [State.openCommand_of_opening state]
    exact .inl state
  case opened =>
    rw [State.openCommand_of_opened state]
    exact .inr (by simpa [State.commandTaken] using state)
  case closing =>
    rw [State.openCommand_of_closing state]
    exact State.driven_opens rfl
  case halted =>
    rw [State.openCommand_of_halted state]
    exact State.driven_opens rfl
  all_goals
    rw [State.openCommand_of_still (by simp [state])]
    exact State.driven_opens rfl

theorem State.enterEgress_opens (s : State) (o : EgressOrigin) (g : Station) : (s.enterEgress o g).barrier.opens := by
  have driven : (s.enterEgress o g).barrier = (s.deskEvacuated o g).barrierEgress.barrier := by simp [State.enterEgress_eq]
  rw [driven, State.barrierEgress_eq]
  exact State.openCommand_opens _

theorem State.enterEgress_barrier (safe : s.barrierSafe) (o : EgressOrigin) (g : Station) :
    (s.enterEgress o g).barrier.egressMark = true ∧ (s.enterEgress o g).barrier.output ≠ .driveClose := by
  obtain ⟨closes, -, mark⟩ := (State.KeepsFlap.enterEgress s o g).safe safe
  refine ⟨by simp [mark, State.inEgress], fun drives => ?_⟩
  have closing := closes drives
  rcases s.enterEgress_opens o g with state | state <;> simp [state] at closing

/-! ## The window (R48) -/

theorem State.closeWindow_closed (s : State) (c : CloseCause) : (s.closeWindow c).vessel.state ≠ .opened := by
  by_cases opened : s.vessel.state = .opened
  · rw [State.closeWindow_of_opened opened, State.completionCheck_eq]
    split
    · rw [State.completeWindow_eq]
      dsimp only
      split <;> simp [Vessel.completed]
    · simp
  · rwa [State.closeWindow_of_not_opened opened]

theorem State.enterEgress_window (s : State) (o : EgressOrigin) (g : Station) :
    (s.enterEgress o g).vessel.state ≠ .opened := by
  simpa [State.enterEgress_eq] using State.closeWindow_closed _ .egress

/-! ## The account, the events and the STATUS of a gate -/

theorem State.enterEgress_account (s : State) (o : EgressOrigin) (g : Station) :
    (s.enterEgress o g).account = (s.deskEvacuated o g).account := by
  obtain ⟨b, opened⟩ := s.deskEvacuated_barrierEgress o g
  simp [State.enterEgress_eq, opened]

theorem State.deskEvacuated_events (s : State) (o : EgressOrigin) (g : Station) :
    let began := s.events.raise .egressBegan (word16 o.code) (word16 g.toNat) 0
    let expired := if s.lane.remaining = 0 then began else began.raise .passageExpired (word16 s.lane.remaining) 2 0
    (s.deskEvacuated o g).events =
      s.admission.record.elim expired fun p => expired.raise .refused (word16 p.number) 2 0 := by
  intro began expired
  have refunded : (s.egressBegun o g).laneEgress.events = expired := by
    rw [State.laneEgress_eq]
    exact State.refund_events (s.egressBegun o g) .egress
  obtain ⟨record, -⟩ := s.egressBegun_laneEgress_frame o g
  have returned : (s.deskEvacuated o g).events = (s.egressBegun o g).laneEgress.abortPresentation.events := by
    simp [State.deskEvacuated]
  rw [returned, State.abortPresentation_events State.egressBegun_laneEgress_busy, record, refunded]

/-- With no window to close the flap and STATUS raise nothing. -/
theorem State.enterEgress_events (shut : s.vessel.state ≠ .opened) (o : EgressOrigin) (g : Station) :
    (s.enterEgress o g).events = (s.deskEvacuated o g).events := by
  obtain ⟨b, opened⟩ := s.deskEvacuated_barrierEgress o g
  have still : ((s.deskEvacuated o g).setBarrier b).vessel.state ≠ .opened := by
    simpa [State.deskEvacuated, State.egressBegun] using shut
  rw [State.enterEgress_eq, opened, State.closeWindow_of_not_opened still]
  simp

theorem State.enterEgress_status (gate : s.presence.number ≠ 0)
    (sends : s.presence.state = .active ∨ s.presence.state = .isolated) (o : EgressOrigin) (g : Station) :
    ∃ e ∈ (s.enterEgress o g).link.queue, e.kind = .status := by
  have presence := s.evacuated_presence o g
  rw [State.enterEgress_eq]
  exact State.egressStatus_queued (presence ▸ gate) (presence ▸ sends)

/-! ## The input (R177) -/

theorem exec_egressInputActive (inactive : s.egress.input = false) :
    exec .egressInputActive s =
      .next (settleClear s (s.setEgress { s.egress with input := true }).inputRaised) :=
  congrArg Host.Outcome.next (if_neg (by simp [inactive]))

theorem State.inputRaised_of_setup (setup : s.presence.state = .setup) : s.inputRaised = s := if_pos setup

theorem State.inputRaised_of_normal (started : s.presence.state ≠ .setup) (normal : s.egress.state = .normal) :
    s.inputRaised = s.enterOwnEgress :=
  (if_neg started).trans (if_neg (by simp [State.inEgress, normal]))

theorem State.inputRaised_of_peer (started : s.presence.state ≠ .setup) (egress : s.egress.state = .egress)
    (peer : s.egress.origin = .peer) :
    s.inputRaised = (s.setEgress { s.egress with origin := .own }).queueEvacuation .egress :=
  (if_neg started).trans ((if_pos (State.inEgress_iff.2 egress)).trans (if_pos peer))

/-! ## The frames (R177) -/

theorem exec_egressFrame (h : s.hears g) :
    exec (.egressFrame g 0 []) s = .next (settleClear s ((s.delivered g).egressHeard g)) :=
  congrArg (Host.Outcome.next <| settleClear s ·) (s.heard_of_hears g _ h)

theorem State.egressHeard_of_normal (normal : s.egress.state = .normal) : s.egressHeard g = s.enterEgress .peer g :=
  if_neg (by simp [State.inEgress, normal])

theorem State.egressHeard_of_egress (egress : s.egress.state = .egress) : s.egressHeard g = s :=
  if_pos (State.inEgress_iff.2 egress)

theorem State.egressFlagHeard_eq (s : State) (g : Station) :
    s.egressFlagHeard g = if s.egress.state = .egress ∨ s.egress.endMark = true then s else s.enterEgress .peer g := by
  simp only [State.egressFlagHeard, State.inEgress_iff]

/-- A STATUS taken by the units that its sender has at the station (R40, R55). -/
def State.statusTaken (s : State) (g : Station) (window : Byte) (body : List Byte) : State :=
  let r := s.recordStatus g window body
  if s.presence.number = 0 then r.gateStatusHeard g window (GateStatus.ofBody body)
  else if g = 0 then r.vesselStatusHeard window body
  else r

theorem State.statusTaken_egress (s : State) (g : Station) (window : Byte) (body : List Byte) :
    (s.statusTaken g window body).egress = s.egress := by
  unfold State.statusTaken
  dsimp only
  split
  · simp
  · split <;> simp

theorem exec_statusFrame_flagged {window : Byte} {body : List Byte} (h : s.hears g)
    (good : formatCheck .status g window body = true) (flag : statusEgressFlag body = true) :
    exec (.statusFrame g window body) s =
      .next (settleClear s (((s.delivered g).statusTaken g window body).egressFlagHeard g)) := by
  simp only [exec, execStatusFrame, good, State.heard_of_hears s g _ h, State.statusHeard, flag, if_true,
    State.isVessel_iff, State.statusTaken]

/-! ## The obligation -/

/-- Settles O42: the statement's entry is `State.enterEgress`, and its facts are those above. -/
theorem egressIsEntered : Obligations.EgressIsEntered := by
  unfold Obligations.EgressIsEntered
  intro entry
  have enters (u : State) (o : EgressOrigin) (g : Station) : entry u o g = u.enterEgress o g := by
    rw [State.enterEgress_of_number, State.laneEgress_of_refunded]
    rfl
  simp only [enters]
  clear enters entry
  refine ⟨fun u o g safe _ => ?_, fun s => ⟨fun inactive normal started => ?_, fun inactive setup => ?_,
    fun inactive started egress peer => ?_, rfl, fun g h => ⟨fun normal => ?_, fun egress => ?_⟩,
    fun g window body h good flag => ?_⟩⟩
  · obtain ⟨mark, output⟩ := State.enterEgress_barrier safe o g
    rw [State.enterEgress_egress, State.enterEgress_lane]
    refine ⟨rfl, rfl, rfl, rfl, rfl, rfl, rfl, rfl, rfl, rfl, rfl, rfl, rfl, u.enterEgress_admission o g,
      Link.hasTicket_eq_false.1 (u.enterEgress_hasTicket o g), fun gate => ?_,
      fun sending => State.enterEgress_line (State.ticketStarted_iff.2 sending) o g, mark, u.enterEgress_opens o g, output,
      u.enterEgress_window o g, ?_⟩
    · obtain ⟨claim, granted, charged, reserved, returned⟩ := State.deskEvacuated_account gate (o := o) (g := g)
      rw [State.enterEgress_account]
      refine ⟨claim, granted, charged, reserved, returned, fun shut => ?_,
        fun sends => State.enterEgress_status gate sends o g⟩
      rw [State.enterEgress_events shut, State.deskEvacuated_events]
      cases o <;> cases u.admission.record <;> rfl
    · simp
  · rw [exec_egressInputActive inactive]
    exact congrArg (Host.Outcome.next <| settleClear s ·) (State.inputRaised_of_normal (s := s.setEgress _) started normal)
  · rw [exec_egressInputActive inactive]
    exact congrArg (Host.Outcome.next <| settleClear s ·) (State.inputRaised_of_setup (s := s.setEgress _) setup)
  · rw [exec_egressInputActive inactive]
    exact congrArg (Host.Outcome.next <| settleClear s ·)
      (State.inputRaised_of_peer (s := s.setEgress _) started egress peer)
  · rw [exec_egressFrame h, State.egressHeard_of_normal (by simpa using normal)]
  · rw [exec_egressFrame h, State.egressHeard_of_egress (by simpa using egress)]
  · rw [exec_statusFrame_flagged h good flag, State.egressFlagHeard_eq, State.statusTaken_egress]
    simp [State.statusTaken]

end Sys2Proof.Machine
end

section
/-! SUPPORT. The bounds of the event queue and of the parties (R73, R87, R121, R189, R192, R193): no operation leaves a queue of more than
32 records or with a gap, a setting out of range, or more passages authorised than a party has. One lemma per operation. -/

namespace Sys2Proof.Machine

variable {r s t : State}

/-! ## The event queue (R192 to R195) -/

section Queue

variable {q : EventQueue}

/-- The queue is sound by its records and its counter alone. -/
theorem EventQueue.sound.congr {q' : EventQueue} (h : q.sound) (records : q'.records = q.records)
    (sequence : q'.sequence = q.sequence) : q'.sound := by
  simpa only [EventQueue.sound, records, sequence] using h

/-- A record that is queued takes the counter's number and is the youngest (R192); one that is lost leaves the records (R193). -/
theorem EventQueue.sound.raise (h : q.sound) (kind : EventKind) (a b c : Word16) : (q.raise kind a b c).sound := by
  obtain ⟨size, numbered⟩ := h
  unfold EventQueue.raise
  split
  next room =>
    refine ⟨by simpa using room, fun i r hr => ?_⟩
    simp only [List.length_append, List.length_singleton] at hr ⊢
    rcases Nat.lt_or_ge i q.records.length with older | youngest
    · rw [List.getElem?_append_left older] at hr
      have number := numbered i r hr
      have next : q.records.length + 1 - i = (q.records.length - i) + 1 := by omega
      rw [number, next, BitVec.ofNat_add]
      bv_omega
    · have place : i = q.records.length := by
        have := (List.getElem?_eq_some_iff.1 hr).1
        simp at this
        omega
      subst place
      simp only [List.getElem?_concat_length, Option.some.injEq] at hr
      simp [← hr]
  next => exact ⟨size, numbered⟩

/-- The oldest record is taken (R194). -/
theorem EventQueue.sound.tail (h : q.sound) {oldest : EventRecord} {rest : List EventRecord}
    (records : q.records = oldest :: rest) : ({ q with records := rest } : EventQueue).sound := by
  obtain ⟨size, numbered⟩ := h
  rw [records, List.length_cons] at size
  refine ⟨by dsimp only; omega, fun i r hr => ?_⟩
  have number := numbered (i + 1) r (by simpa [records] using hr)
  simpa [records] using number

theorem EventQueue.sound_afterReset : EventQueue.afterReset.sound :=
  ⟨Nat.zero_le _, fun i r hr => by simp [EventQueue.afterReset] at hr⟩

end Queue
end Sys2Proof.Machine
end

section
/-! SUPPORT. The configuration record's fields (R189): a payload's checks are R189's ranges, the lowest field out of range is the one named,
and a payload in range spells a record in range. -/

namespace Sys2Proof.Machine

variable {b : List Byte} {k : Nat}

/-- The indices of the fields that have a range (R189). -/
def rangedFields : List Nat := [1, 2, 3, 4, 5, 6, 7, 8, 9, 10, 11, 13, 15, 17, 19, 21, 23, 25, 27]

theorem configChecks_indices (b : List Byte) : (configChecks b).map Prod.fst = rangedFields := rfl

/-- A field outside the table's ranges has every value allowed. -/
theorem mem_rangedFields_of_bad (bad : ¬ fieldInRange b k) : k ∈ rangedFields := by
  unfold fieldInRange at bad
  split at bad
  case h_20 => exact absurd trivial bad
  all_goals decide

/-- Each check is the range of its field. -/
theorem configChecks_range {c : Nat × Bool} (hc : c ∈ configChecks b) : c.2 = true ↔ fieldInRange b c.1 := by
  simp only [configChecks, List.range, List.range.loop, List.map_cons, List.map_nil, List.cons_append, List.nil_append,
    List.mem_cons, List.not_mem_nil, or_false] at hc
  rcases hc with rfl | rfl | rfl | rfl | rfl | rfl | rfl | rfl | rfl | rfl | rfl | rfl | rfl | rfl | rfl | rfl | rfl |
    rfl | rfl <;>
  (simp only [Bool.and_eq_true, decide_eq_true_eq]; exact .rfl)

theorem exists_check (ranged : k ∈ rangedFields) : ∃ c ∈ configChecks b, c.1 = k :=
  List.mem_map.1 (configChecks_indices b ▸ ranged)

theorem firstBadField_eq_none_iff : firstBadField b = none ↔ ∀ k, fieldInRange b k := by
  simp only [firstBadField, Option.map_eq_none_iff, List.find?_eq_none, Bool.not_eq_true, Bool.not_eq_false']
  constructor
  · intro passed k
    by_contra bad
    obtain ⟨c, hc, rfl⟩ := exists_check (b := b) (mem_rangedFields_of_bad bad)
    exact bad ((configChecks_range hc).1 (passed c hc))
  · exact fun ranges c hc => (configChecks_range hc).2 (ranges c.1)

/-- The checks stand in the order of the fields, so the first that fails is the lowest field out of range. -/
theorem firstBadField_eq_some (lower : ∀ j < k, fieldInRange b j) (bad : ¬ fieldInRange b k) : firstBadField b = some k := by
  have ordered : (configChecks b).Pairwise fun c d => c.1 < d.1 :=
    List.pairwise_map.1 (configChecks_indices b ▸ (by decide : rangedFields.Pairwise (· < ·)))
  obtain ⟨c, hc, rfl⟩ := exists_check (b := b) (mem_rangedFields_of_bad bad)
  have failed : c.2 = false := by
    rw [← Bool.not_eq_true, configChecks_range hc]
    exact bad
  obtain ⟨before, after, split⟩ := List.append_of_mem hc
  rw [split, List.pairwise_append] at ordered
  have passed : ∀ d ∈ before, d.2 = true := fun d hd =>
    (configChecks_range (split ▸ List.mem_append_left _ hd)).2 (lower d.1 (ordered.2.2 d hd c List.mem_cons_self))
  have found : (configChecks b).find? (fun c => !c.2) = some c :=
    List.find?_eq_some_iff_append.2 ⟨by simp [failed], before, after, split, fun d hd => by simp [passed d hd]⟩
  rw [firstBadField, found]
  rfl

theorem natAt_le (b : List Byte) (i : Nat) : natAt b i ≤ 255 := Nat.le_of_lt_succ (byteAt b i).isLt

/-- Each class of a payload in range has its largest party in range (R189, indices 13 to 27). -/
theorem classParty_inRange (ranges : ∀ k, fieldInRange b k) (i : Fin 8) :
    1 ≤ natAt b (15 + 2 * i) ∧ natAt b (15 + 2 * i) ≤ 8 := by
  have range := ranges (13 + 2 * i)
  fin_cases i <;> exact range

theorem ConfigRecord.ofPayload_inRange (ranges : ∀ k, fieldInRange b k) : (ConfigRecord.ofPayload b).inRange := by
  obtain ⟨occupyLow, occupyHigh⟩ := ranges 2
  obtain ⟨multipleLow, multipleHigh⟩ := ranges 3
  obtain ⟨blockLow, blockHigh⟩ := ranges 5
  obtain ⟨waitLow, waitHigh⟩ := ranges 7
  obtain ⟨capacityLow, capacityHigh⟩ := ranges 11
  refine ⟨ranges 1, occupyLow, occupyHigh, multipleLow, multipleHigh, natAt_le b 5, ranges 4, blockLow, blockHigh,
    Nat.le_sub_one_of_lt (ranges 6), waitLow, waitHigh, ranges 9, ranges 10, capacityLow, capacityHigh, fun r hr => ?_⟩
  obtain ⟨i, hi, rfl⟩ := List.getElem_of_mem hr
  have party := classParty_inRange ranges ⟨i, by simpa using hi⟩
  simpa [ConfigRecord.ofPayload, natAt_le] using party

theorem ConfigRecord.default_inRange : ConfigRecord.default.inRange := by simp [ConfigRecord.inRange, ConfigRecord.default]

/-- The class record that a class number reads has its party in range (R86, R189). -/
theorem State.maxParty_le {s : State} (h : s.config.inRange) (cls : Nat) : (s.classRecord cls).maxParty ≤ 8 := by
  obtain ⟨-, -, -, -, -, -, -, -, -, -, -, -, -, -, -, -, classes⟩ := h
  exact (classes _ (by simp [State.classRecord])).2.2

end Sys2Proof.Machine
end

section
/-! SUPPORT. The bounds of the event queue and of the parties at the shared operations (R87, R121, R189, R192, R193): no operation leaves
a queue of more than 32 records or with a gap, a setting out of range, or more passages authorised than a party has. -/

namespace Sys2Proof.Machine

variable {r s t : State}

/-! ## The relation -/

/-- `t` keeps within bounds where `s` does: the event queue's records and numbers, and the settings with the parties. -/
structure State.KeepsBounds (s t : State) : Prop where
  events : s.events.sound → t.events.sound
  parties : s.partiesFit → t.partiesFit

/-- The party of a pending presentation is one of the parties that fit. -/
theorem State.partiesFit.party (h : s.partiesFit) {p : Presentation} (record : s.admission.record = some p) : p.party ≤ 8 :=
  h.2.2 p record

namespace State.KeepsBounds

theorem refl (s : State) : s.KeepsBounds s := ⟨id, id⟩

theorem trans (h : r.KeepsBounds s) (h' : s.KeepsBounds t) : r.KeepsBounds t :=
  ⟨h'.events ∘ h.events, h'.parties ∘ h.parties⟩

/-- Nothing that the bounds are about changes. -/
theorem of_eq (h : r.KeepsBounds s)
    (same : t.events = s.events ∧ t.config = s.config ∧ t.admission = s.admission ∧ t.lane = s.lane) : r.KeepsBounds t := by
  obtain ⟨events, config, admission, lane⟩ := same
  refine h.trans ⟨fun sound => events ▸ sound, fun fit => ?_⟩
  simpa only [State.partiesFit, config, admission, lane] using fit

theorem ite {c : Prop} [Decidable c] (hs : r.KeepsBounds s) (ht : r.KeepsBounds t) : r.KeepsBounds (if c then s else t) := by
  split
  · exact hs
  · exact ht

/-- An operation made on a condition. -/
theorem applyIf {c : Prop} [Decidable c] (h : r.KeepsBounds s) (op : r.KeepsBounds s → r.KeepsBounds t) :
    r.KeepsBounds (if c then t else s) :=
  ite (op h) h

/-- An operation made unless a condition holds. -/
theorem applyUnless {c : Prop} [Decidable c] (h : r.KeepsBounds s) (op : r.KeepsBounds s → r.KeepsBounds t) :
    r.KeepsBounds (if c then s else t) :=
  ite h (op h)

/-! ## Updates -/

theorem setPort (h : r.KeepsBounds s) (x : HostPort) : r.KeepsBounds (s.setPort x) := h.of_eq ⟨rfl, rfl, rfl, rfl⟩
theorem setLocked (h : r.KeepsBounds s) (x : Bool) : r.KeepsBounds (s.setLocked x) := h.of_eq ⟨rfl, rfl, rfl, rfl⟩
theorem setLink (h : r.KeepsBounds s) (x : Link) : r.KeepsBounds (s.setLink x) := h.of_eq ⟨rfl, rfl, rfl, rfl⟩
theorem setPresence (h : r.KeepsBounds s) (x : Presence) : r.KeepsBounds (s.setPresence x) := h.of_eq ⟨rfl, rfl, rfl, rfl⟩
theorem setVessel (h : r.KeepsBounds s) (x : Vessel) : r.KeepsBounds (s.setVessel x) := h.of_eq ⟨rfl, rfl, rfl, rfl⟩
theorem setView (h : r.KeepsBounds s) (x : WindowView) : r.KeepsBounds (s.setView x) := h.of_eq ⟨rfl, rfl, rfl, rfl⟩
theorem setAccount (h : r.KeepsBounds s) (x : Account) : r.KeepsBounds (s.setAccount x) := h.of_eq ⟨rfl, rfl, rfl, rfl⟩
theorem setList (h : r.KeepsBounds s) (x : RecentList) : r.KeepsBounds (s.setList x) := h.of_eq ⟨rfl, rfl, rfl, rfl⟩
theorem setConverter (h : r.KeepsBounds s) (x : Converter) : r.KeepsBounds (s.setConverter x) := h.of_eq ⟨rfl, rfl, rfl, rfl⟩
theorem setBarrier (h : r.KeepsBounds s) (x : Barrier) : r.KeepsBounds (s.setBarrier x) := h.of_eq ⟨rfl, rfl, rfl, rfl⟩
theorem setEgress (h : r.KeepsBounds s) (x : Egress) : r.KeepsBounds (s.setEgress x) := h.of_eq ⟨rfl, rfl, rfl, rfl⟩
theorem setPending (h : r.KeepsBounds s) (x : List Instr) : r.KeepsBounds (s.setPending x) := h.of_eq ⟨rfl, rfl, rfl, rfl⟩

theorem setConfig (h : r.KeepsBounds s) (x : ConfigRecord) (range : x.inRange) : r.KeepsBounds (s.setConfig x) :=
  h.trans ⟨id, fun ⟨_, remaining, record⟩ => ⟨range, remaining, record⟩⟩

theorem setEvents (h : r.KeepsBounds s) (x : EventQueue) (sound : s.events.sound → x.sound) : r.KeepsBounds (s.setEvents x) :=
  h.trans ⟨sound, id⟩

theorem setAdmission (h : r.KeepsBounds s) (x : Admission) (fits : s.partiesFit → ∀ p, x.record = some p → p.party ≤ 8) :
    r.KeepsBounds (s.setAdmission x) :=
  h.trans ⟨id, fun fit => ⟨fit.1, fit.2.1, fits fit⟩⟩

theorem recordRemoved (h : r.KeepsBounds s) (x : Admission) (none : x.record = none := by rfl) :
    r.KeepsBounds (s.setAdmission x) :=
  h.setAdmission x fun _ p some => by simp [none] at some

/-- The lane changes; unless said otherwise, its remaining passages stay. -/
theorem setLane (h : r.KeepsBounds s) (x : Lane) (fits : s.partiesFit → x.remaining ≤ 8 := by exact fun fit => fit.2.1) :
    r.KeepsBounds (s.setLane x) :=
  h.trans ⟨id, fun fit => ⟨fit.1, fits fit, fit.2.2⟩⟩

theorem raise (h : r.KeepsBounds s) (k : EventKind) (a b c : Nat) : r.KeepsBounds (s.raise k a b c) :=
  h.setEvents _ (·.raise _ _ _ _)

theorem settled (h : r.KeepsBounds t) (s : State) : r.KeepsBounds (settleClear s t) :=
  ite (ite h (h.setLane _)) (h.setLane _)

/-! ## The transmit queue and the gate place account -/

theorem queueKind (h : r.KeepsBounds s) (k : FrameKind) : r.KeepsBounds (s.queueKind k) := h.setLink _

theorem queueEvacuation (h : r.KeepsBounds s) (k : FrameKind) : r.KeepsBounds (s.queueEvacuation k) := h.setLink _

theorem withdraw (h : r.KeepsBounds s) (k : FrameKind) : r.KeepsBounds (s.withdraw k) := h.setLink _

theorem statusTrigger (h : r.KeepsBounds s) : r.KeepsBounds s.statusTrigger := h.of_eq (by simp)

theorem backgroundCheck (h : r.KeepsBounds s) : r.KeepsBounds s.backgroundCheck := h.of_eq (by simp)

theorem dropClaim (h : r.KeepsBounds s) : r.KeepsBounds s.dropClaim := h.of_eq (by simp)

theorem endClaim (h : r.KeepsBounds s) : r.KeepsBounds s.endClaim := h.of_eq (by simp)

theorem demand (h : r.KeepsBounds s) (party : Nat) : r.KeepsBounds (s.demand party) := h.of_eq (by simp)

theorem returnFree (h : r.KeepsBounds s) : r.KeepsBounds s.returnFree := h.of_eq (by simp)

theorem enterReturn (h : r.KeepsBounds s) : r.KeepsBounds s.enterReturn := h.of_eq (by simp)

theorem refundAccount (h : r.KeepsBounds s) (n : Nat) : r.KeepsBounds (s.refundAccount n) := h.of_eq (by simp)

theorem lapse (h : r.KeepsBounds s) : r.KeepsBounds s.lapse := h.of_eq (by simp)

theorem clearAccount (h : r.KeepsBounds s) : r.KeepsBounds s.clearAccount :=
  ite ((h.endClaim.setAccount _).setLane _) ((h.endClaim.setAccount _).setLane _).statusTrigger

/-! ## Hold, refusal and the events that stop a presentation -/

theorem holdCheck (h : r.KeepsBounds s) : r.KeepsBounds s.holdCheck :=
  h.applyIf fun h => (h.setLane _).enterReturn.raise _ _ _ _

theorem refuse (h : r.KeepsBounds s) (reason : Reason) (d : Nat) : r.KeepsBounds (s.refuse reason d) := by
  unfold State.refuse
  split
  · exact h
  next p _ =>
    have lapsed : r.KeepsBounds (if p.state = .awaitLink then (s.withdraw .ticket).lapse else s) :=
      h.applyIf fun h => (h.withdraw _).lapse
    exact (((lapsed.setAccount _).raise _ _ _ _).recordRemoved _).holdCheck

/-- A noted stop cause leaves the party of the presentation. -/
theorem stopPresentation (h : r.KeepsBounds s) (c : StopCause) : r.KeepsBounds (s.stopPresentation c) := by
  unfold State.stopPresentation
  split
  · exact h
  next p record =>
    refine ite (h.setAdmission _ fun fit q hq => ?_) (h.refuse _ _)
    cases hq
    exact fit.party (p := p) record

theorem abortPresentation (h : r.KeepsBounds s) : r.KeepsBounds s.abortPresentation :=
  (ite (h.setLink _) (h.withdraw _)).refuse _ _

/-! ## Reports to the lane -/

theorem reportOpen (h : r.KeepsBounds s) : r.KeepsBounds s.reportOpen :=
  ite (h.setLane _) (h.applyIf fun h => (h.setLane _).raise _ _ _ _)

theorem reportClosed (h : r.KeepsBounds s) : r.KeepsBounds s.reportClosed :=
  ite (h.setLane _).holdCheck (h.applyIf fun h => ((h.setLane _).raise _ _ _ _).holdCheck)

theorem reportReversed (h : r.KeepsBounds s) : r.KeepsBounds s.reportReversed :=
  ite (h.setLane _) (h.applyIf (·.setLane _))

theorem enterFault (h : r.KeepsBounds s) (c : FaultCause) : r.KeepsBounds (s.enterFault c) :=
  ((h.setLane _).applyIf fun h => (h.stopPresentation _).enterReturn).raise _ _ _ _

theorem reportFault (h : r.KeepsBounds s) (c : FaultCause) : r.KeepsBounds (s.reportFault c) := by
  unfold State.reportFault
  split
  case h_6 => exact (h.setLane _).enterFault c
  case h_7 | h_8 => exact (h.setLane _).raise _ _ _ _
  all_goals exact h.enterFault c

/-! ## The barrier driver -/

theorem reachEnd (h : r.KeepsBounds s) (e : EndId) : r.KeepsBounds (s.reachEnd e) := by
  cases e
  · exact (h.setBarrier _).reportOpen
  · exact (h.setBarrier _).reportClosed

theorem commandTaken (h : r.KeepsBounds s) : r.KeepsBounds s.commandTaken := h.setBarrier _

theorem movementCommanded (h : r.KeepsBounds s) : r.KeepsBounds s.movementCommanded := h.setBarrier _

/-- A movement begins, or its end is reached at once. -/
theorem begins (h : r.KeepsBounds s) (reached : Bool) (e : EndId) (b : Barrier) :
    r.KeepsBounds (if reached then s.reachEnd e else s.setBarrier b) :=
  ite (h.reachEnd e) (h.setBarrier b)

theorem beginClose (h : r.KeepsBounds s) : r.KeepsBounds s.beginClose := h.begins _ _ _

theorem openCommand (h : r.KeepsBounds s) (e : Bool) : r.KeepsBounds (s.openCommand e) := by
  unfold State.openCommand
  split
  · exact h.commandTaken.begins _ _ _
  · exact h.commandTaken.begins _ _ _
  · exact h.commandTaken.movementCommanded
  · exact h.commandTaken.reportOpen
  · exact h.commandTaken.begins _ _ _
  · exact h.commandTaken.begins _ _ _
  · exact h.applyIf (·.commandTaken.begins _ _ _)

theorem closeCommand (h : r.KeepsBounds s) : r.KeepsBounds s.closeCommand := by
  unfold State.closeCommand
  split
  · exact ite h.commandTaken.beginClose (h.setBarrier _).reportReversed
  · exact h.commandTaken.reportClosed
  · exact ite h.commandTaken.beginClose h.reportReversed
  · exact ite (h.commandTaken.begins _ _ _) h.reportReversed
  · exact h.commandTaken.movementCommanded
  · exact ite h.commandTaken.beginClose h.reportReversed
  · exact h

theorem plateBroken (h : r.KeepsBounds s) : r.KeepsBounds s.plateBroken :=
  ite (h.setBarrier _).reportReversed (h.applyIf fun h => (h.setBarrier _).reportReversed)

theorem halt (h : r.KeepsBounds s) (c : FaultCause) : r.KeepsBounds (s.halt c) := (h.setBarrier _).reportFault c

theorem stallByMode (h : r.KeepsBounds s) : r.KeepsBounds s.stallByMode := by
  unfold State.stallByMode
  split
  · exact h.halt _
  · exact ite (h.setBarrier _) (h.halt _)
  · exact h.raise _ _ _ _
  · exact h

theorem takePosition (h : r.KeepsBounds s) (e : EndId) : r.KeepsBounds (s.takePosition e) :=
  ((h.reachEnd e).setBarrier _).raise _ _ _ _

theorem travelByMode (h : r.KeepsBounds s) : r.KeepsBounds s.travelByMode := by
  unfold State.travelByMode
  split
  · exact h.halt _
  · exact ite (h.setBarrier _) (h.halt _)
  · exact h.takePosition _
  · exact h.takePosition _

theorem obstruction (h : r.KeepsBounds s) : r.KeepsBounds s.obstruction :=
  ite (h.setBarrier _).plateBroken (ite ((h.setBarrier _).plateBroken.raise _ _ _ _) (h.setBarrier _).stallByMode)

theorem clearLatch (h : r.KeepsBounds s) : r.KeepsBounds s.clearLatch :=
  h.applyIf fun h => ite ((h.setBarrier _).applyIf (·.openCommand _)) (h.setBarrier _)

theorem barrierEgress (h : r.KeepsBounds s) : r.KeepsBounds s.barrierEgress :=
  ((h.setBarrier _).applyIf (·.setBarrier _)).openCommand _

theorem switchActive (h : r.KeepsBounds s) (e : EndId) : r.KeepsBounds (s.switchActive e) :=
  ite (h.applyUnless (·.halt _)) (ite (h.reachEnd _) (h.setBarrier _))

theorem endPause (h : r.KeepsBounds s) : r.KeepsBounds s.endPause :=
  ite (h.reachEnd _) (ite (h.setBarrier _) (ite (h.setBarrier _) (h.setBarrier _).reportReversed))

/-! ## Authorised passages (R94, R121, R125, R131) -/

theorem tallyCheck (h : r.KeepsBounds s) : r.KeepsBounds s.tallyCheck := h.applyIf fun h => (h.queueKind _).setView _

/-- The lane takes a party that fits. -/
theorem authorise (h : r.KeepsBounds s) {party : Nat} (fits : s.partiesFit → party ≤ 8) : r.KeepsBounds (s.authorise party) :=
  ite (((h.setLane _ fits).setLane _).openCommand _) (h.setLane _ fits)

theorem admitParty (h : r.KeepsBounds s) (number : Nat) {party : Nat} (window : Nat) (fits : s.partiesFit → party ≤ 8) :
    r.KeepsBounds (s.admitParty number party window) := by
  have authorised := (h.setAccount { s.account with charged := s.account.charged + party, reserved := 0 }).authorise fits
  exact ((authorised.raise .admitted number party window).recordRemoved _).backgroundCheck

theorem awaitLink (h : r.KeepsBounds s) {p : Presentation} (fits : s.partiesFit → p.party ≤ 8) : r.KeepsBounds (s.awaitLink p) :=
  ((h.setAccount _).setAdmission _ fun fit q hq => by cases hq; exact fits fit).setLink _

theorem claimReport (h : r.KeepsBounds s) (c : ClaimCause) : r.KeepsBounds (s.claimReport c) := by
  unfold State.claimReport
  split
  · exact h
  next p record =>
    have fits (fit : s.partiesFit) : p.party ≤ 8 := fit.party record
    exact h.applyIf fun h => ite (ite (h.admitParty _ _ fits) (h.awaitLink fits)) (h.refuse _ _)

theorem endClaimWith (h : r.KeepsBounds s) (c : ClaimCause) : r.KeepsBounds (s.endClaimWith c) :=
  h.dropClaim.applyIf (·.claimReport c)

theorem refund (h : r.KeepsBounds s) (c : RefundCause) : r.KeepsBounds (s.refund c) :=
  h.applyUnless fun h =>
    (((h.setLane _ fun _ => Nat.zero_le _).applyIf (·.refundAccount _)).raise _ _ _ _).tallyCheck

theorem countUnit (h : r.KeepsBounds s) (k : UnitCount) : r.KeepsBounds (s.countUnit k).1 := by
  unfold State.countUnit
  split
  · exact h.setLane _ fun fit => (Nat.sub_le _ _).trans fit.2.1
  · split
    · split
      · exact (h.setAccount _).setLane _
      · exact h.setLane _
    · exact h

theorem countUnits (n : Nat) (h : r.KeepsBounds s) (k : UnitCount) : r.KeepsBounds (State.countUnits n s k).1 := by
  induction n generalizing s k with
  | zero => exact h
  | succ n ih => exact ih (h.countUnit k) _

theorem countForward (h : r.KeepsBounds s) (multiple : Bool) : r.KeepsBounds (s.countForward multiple) :=
  ((((h.countUnits _ _).setLane _).applyIf (·.raise _ _ _ _)).applyIf (·.raise _ _ _ _)).applyUnless backgroundCheck

end State.KeepsBounds

end Sys2Proof.Machine
end

section
/-! SUPPORT. The bounds of the event queue and of the parties at the blocks' own operations: the lane and the converter, windows, claims,
presentations, egress, good frames and the ends of transmissions (R48 to R62, R70 to R80, R87 to R103, R127 to R156, R177 to R181). -/

namespace Sys2Proof.Machine

/-- A PRESENT that passes the checks of R88 has a party that its class allows. -/
theorem State.party_allowed {s : State} {key : TicketKey} {cls party : Nat} (h : s.presentCheck key cls party = none) :
    party ≤ (s.classRecord cls).maxParty := by
  simp only [State.presentCheck, ite_eq_iff, reduceCtorEq, and_false, false_or, and_true] at h
  obtain ⟨-, -, -, -, allowed, -⟩ := h
  simp only [Bool.not_eq_true', Bool.not_eq_false, Bool.and_eq_true, decide_eq_true_eq] at allowed
  exact allowed.2

/-! ## Requests that answer from the state alone (R116, R188, R194) -/

theorem State.takeLookup_state (key : TicketKey) (s : State) : (State.takeLookup key s).1 = s := by
  unfold State.takeLookup
  dsimp only
  split <;> rfl

theorem State.takeQuery_state (page : Byte) (s : State) : (State.takeQuery page s).1 = s := by
  unfold State.takeQuery
  dsimp only
  split
  case h_6 | h_7 => split <;> rfl
  all_goals rfl

theorem State.takePeekEvent_state (s : State) : s.takePeekEvent.1 = s := by
  unfold State.takePeekEvent
  split <;> rfl

namespace State.KeepsBounds

variable {r s t : State}

/-! ## The lane and the converter (R126 to R156) -/

theorem alight (h : r.KeepsBounds s) : r.KeepsBounds s.alight := (ite (h.raise _ _ _ _) (h.setVessel _)).raise _ _ _ _

theorem passageComplete (h : r.KeepsBounds s) (d : Direction) (multiple : Bool) :
    r.KeepsBounds (s.passageComplete d multiple) := by
  cases d
  · exact ite (h.setLane _) (ite (h.countForward _) (h.raise _ _ _ _))
  · exact ite (h.setLane _) (ite (h.raise _ _ _ _) h.alight)

theorem trackerChange (h : r.KeepsBounds s) (p : PlateId) (old : PlateClass) : r.KeepsBounds (s.trackerChange p old) := by
  unfold State.trackerChange
  dsimp only
  split
  · split
    · exact h.setLane _
    · split
      · split
        · exact ((h.setLane _).setLane _).tallyCheck
        · exact (((h.setLane _).passageComplete _ _).setLane _).tallyCheck
      · split
        · exact h.setLane _
        · exact (h.setLane _).passageComplete _ _
  · exact h

theorem setLoiter (h : r.KeepsBounds s) (p : PlateId) (x : Timer) : r.KeepsBounds (s.setLane (s.lane.setLoiter p x)) := by
  cases p
  · exact h.setLane _
  · exact h.setLane _

theorem loiterChange (h : r.KeepsBounds s) (p : PlateId) (old : PlateClass) : r.KeepsBounds (s.loiterChange p old) :=
  ite (h.setLoiter _ _) (h.applyIf (·.setLoiter _ _))

theorem alightOpen (h : r.KeepsBounds s) (p : PlateId) (old : PlateClass) : r.KeepsBounds (s.alightOpen p old) :=
  h.applyIf fun h => (h.setLane _).openCommand _

theorem deliverClass (h : r.KeepsBounds s) (p : PlateId) (old : PlateClass) : r.KeepsBounds (s.deliverClass p old) :=
  (((h.alightOpen p old).loiterChange p old).trackerChange p old).applyIf plateBroken

theorem unarmTracker (h : r.KeepsBounds s) : r.KeepsBounds s.unarmTracker := (h.setLane _).tallyCheck

theorem takeFlow (h : r.KeepsBounds s) : r.KeepsBounds s.takeFlow := by
  unfold State.takeFlow
  split
  · exact h
  · split
    · exact h.setLane _
    · have quiet : r.KeepsBounds (s.unarmTracker.setLane { s.unarmTracker.lane with
          mode := .flow, clearTimer := .stopped, loiterA := .stopped, loiterB := .stopped }) := h.unarmTracker.setLane _
      dsimp only
      split
      case h_5 => exact quiet.applyIf (·.openCommand _)
      case h_6 | h_7 | h_8 => exact quiet
      all_goals exact (quiet.setLane _).openCommand _

theorem clearFaults (h : r.KeepsBounds s) : r.KeepsBounds s.clearFaults.1 := by
  have cleared : r.KeepsBounds s.clearPlateFaults := h.setConverter _
  unfold State.clearFaults
  dsimp only
  split
  · split
    · exact cleared.clearLatch
    · exact (cleared.clearLatch.setLane _).applyIf (·.openCommand _)
  · split
    · exact (cleared.setLane _).clearLatch.raise _ _ _ _
    · exact h

theorem restartLane (h : r.KeepsBounds s) : r.KeepsBounds s.restartLane.1 := by
  have refunded : r.KeepsBounds ((if s.isGate then s.stopPresentation .laneRestart else s).refund .restart) :=
    (h.applyIf (·.stopPresentation _)).refund _
  unfold State.restartLane
  split
  · exact h
  · exact (((((refunded.setLane _).setConverter _).setBarrier _).applyIf (·.raise _ _ _ _)).applyIf
      (·.openCommand _)).tallyCheck.holdCheck

theorem takeHold (h : r.KeepsBounds s) : r.KeepsBounds s.takeHold.1 := by
  unfold State.takeHold
  split
  · exact h
  · split
    · exact h
    · dsimp only
      split
      · exact (h.setLane _).holdCheck
      · exact h.setLane _

theorem takeRelease (h : r.KeepsBounds s) : r.KeepsBounds s.takeRelease.1 := by
  unfold State.takeRelease
  split
  · exact h.setLane _
  · split
    · exact h.setLane _
    · exact h

theorem takeLaneMode (h : r.KeepsBounds s) (mode : Byte) : r.KeepsBounds (State.takeLaneMode mode s).1 := by
  unfold State.takeLaneMode
  split
  · exact h
  · split
    · exact h
    · exact ite h.takeFlow (h.applyUnless (·.setLane _))

theorem goodConversion (h : r.KeepsBounds s) (p : PlateId) (reading : Nat) : r.KeepsBounds (s.goodConversion p reading) :=
  ((h.setConverter _).applyUnless (·.deliverClass _ _)).applyIf (·.setLane _)

theorem plateFault (h : r.KeepsBounds s) (p : PlateId) (k : ConversionResult) : r.KeepsBounds (s.plateFault p k) :=
  ((((h.setConverter _).unarmTracker.setLoiter _ _).applyUnless (·.deliverClass _ _)).raise _ _ _ _).reportFault _

theorem badConversion (h : r.KeepsBounds s) (p : PlateId) (k : ConversionResult) : r.KeepsBounds (s.badConversion p k) :=
  (h.setConverter _).applyIf (·.plateFault _ _)

/-! ## The vessel station (R43 to R55, R74 to R80) -/

theorem overCapacityCheck (h : r.KeepsBounds s) : r.KeepsBounds s.overCapacityCheck := h.applyIf (·.raise _ _ _ _)

theorem completeWindow (h : r.KeepsBounds s) (c : Bool) : r.KeepsBounds (s.completeWindow c) :=
  ((h.setVessel _).raise _ _ _ _).statusTrigger.overCapacityCheck

theorem completionCheck (h : r.KeepsBounds s) : r.KeepsBounds s.completionCheck := h.applyIf (·.completeWindow _)

theorem closeWindow (h : r.KeepsBounds s) (c : CloseCause) : r.KeepsBounds (s.closeWindow c) :=
  h.applyIf fun h => ((((h.queueKind _).setVessel _).statusTrigger).raise _ _ _ _).completionCheck

theorem takeOpenWindow (h : r.KeepsBounds s) : r.KeepsBounds s.takeOpenWindow.1 := by
  unfold State.takeOpenWindow
  split
  · exact h
  · split
    · exact h
    · exact ((((h.setVessel _).takeFlow.queueKind _).setVessel _).statusTrigger).raise _ _ _ _

theorem takeCloseWindow (h : r.KeepsBounds s) : r.KeepsBounds s.takeCloseWindow.1 := by
  unfold State.takeCloseWindow
  split
  · exact h.closeWindow _
  · exact h

theorem takeSetOnboard (h : r.KeepsBounds s) (n : Word16) : r.KeepsBounds (State.takeSetOnboard n s).1 := by
  unfold State.takeSetOnboard
  split
  · exact (h.setVessel _).overCapacityCheck
  · exact h

theorem accountLostTest (h : r.KeepsBounds s) (g : Station) (x : GateStatus) : r.KeepsBounds (s.accountLostTest g x) :=
  h.applyIf fun h => (h.setVessel _).raise _ _ _ _

theorem markDue (h : r.KeepsBounds s) (g : Station) : r.KeepsBounds (s.markDue g) := (h.setVessel _).queueKind _

theorem gateStatusHeard (h : r.KeepsBounds s) (g : Station) (w : Byte) (x : GateStatus) :
    r.KeepsBounds (s.gateStatusHeard g w x) :=
  h.applyIf fun h => ((h.accountLostTest g x).applyIf (·.markDue _)).setVessel _

theorem tallyHeard (h : r.KeepsBounds s) (g : Station) (w : Byte) (x : GateStatus) : r.KeepsBounds (s.tallyHeard g w x) := by
  unfold State.tallyHeard
  split
  · exact ((h.accountLostTest g x).setVessel _).completionCheck
  · split
    · split
      · exact h.applyIf fun h => ((h.setVessel _).raise _ _ _ _).overCapacityCheck
      · exact h
    · exact h

theorem claimHeard (h : r.KeepsBounds s) (g : Station) (w : Byte) (n : Nat) : r.KeepsBounds (s.claimHeard g w n) :=
  h.applyIf fun h => ((h.setVessel _).markDue _).applyIf fun h => (h.setVessel _).raise _ _ _ _

theorem requeueGrant (h : r.KeepsBounds s) : r.KeepsBounds s.requeueGrant := h.applyIf (·.queueKind _)

/-! ## The window view (R57 to R62) -/

theorem leftOpen (h : r.KeepsBounds s) : r.KeepsBounds s.leftOpen := (h.stopPresentation _).endClaim

theorem viewClose (h : r.KeepsBounds s) : r.KeepsBounds s.viewClose :=
  (((h.setView _).raise _ _ _ _).applyIf leftOpen).tallyCheck

theorem viewOrphan (h : r.KeepsBounds s) : r.KeepsBounds s.viewOrphan :=
  h.applyIf fun h => ((h.setView _).raise _ _ _ _).leftOpen

theorem viewOpen (h : r.KeepsBounds s) (w offer : Nat) : r.KeepsBounds (s.viewOpen w offer) :=
  ((h.setView _).clearAccount.raise _ _ _ _).statusTrigger

theorem viewResume (h : r.KeepsBounds s) : r.KeepsBounds s.viewResume := (h.setView _).raise _ _ _ _

theorem openShown (h : r.KeepsBounds s) (w offer : Nat) : r.KeepsBounds (s.openShown w offer) := by
  unfold State.openShown
  split
  · exact h.applyUnless (·.viewOpen _ _)
  · exact h.applyUnless viewClose
  · exact ite h.viewResume h.viewClose
  · exact h

theorem offerHeard (h : r.KeepsBounds s) (w : Byte) (body : List Byte) : r.KeepsBounds (s.offerHeard w body) := h.openShown _ _

theorem closeHeard (h : r.KeepsBounds s) (w : Byte) : r.KeepsBounds (s.closeHeard w) := h.applyIf viewClose

theorem vesselStatusHeard (h : r.KeepsBounds s) (w : Byte) (body : List Byte) : r.KeepsBounds (s.vesselStatusHeard w body) := by
  unfold State.vesselStatusHeard
  split
  · exact h.openShown _ _
  · split
    · exact h.applyIf (·.setView _)
    · exact h.viewClose
    · exact h.viewClose
    · exact h

theorem abandon (h : r.KeepsBounds s) : r.KeepsBounds s.abandon := (((h.refund _).setView _).raise _ _ _ _).clearAccount

theorem windowEnded (h : r.KeepsBounds s) (c : Bool) : r.KeepsBounds (s.windowEnded c) :=
  (h.setView _).clearAccount.raise _ _ _ _

theorem grantEndsClaim (h : r.KeepsBounds s) (remainder : Nat) : r.KeepsBounds (s.grantEndsClaim remainder) :=
  h.applyUnless fun h => ite (h.endClaimWith _) (h.applyIf (·.endClaimWith _))

theorem grantHeard (h : r.KeepsBounds s) (w : Byte) (body : List Byte) : r.KeepsBounds (s.grantHeard w body) :=
  h.applyIf fun h => (((h.setAccount _).applyUnless (·.grantEndsClaim _)).applyIf returnFree).applyIf backgroundCheck

/-! ## Egress (R142, R177 to R181) -/

theorem laneEgress (h : r.KeepsBounds s) : r.KeepsBounds s.laneEgress := (h.refund _).setLane _

theorem laneEgressEnd (h : r.KeepsBounds s) : r.KeepsBounds s.laneEgressEnd := by
  unfold State.laneEgressEnd
  split
  · exact (h.setLane _).applyIf fun h => (h.stopPresentation _).enterReturn
  · exact h.setLane _

theorem enterEgress (h : r.KeepsBounds s) (o : EgressOrigin) (g : Station) : r.KeepsBounds (s.enterEgress o g) :=
  ((((h.setEgress _).raise _ _ _ _).laneEgress.abortPresentation.applyIf enterReturn).barrierEgress.closeWindow _).applyIf
    statusTrigger

theorem leaveEgress (h : r.KeepsBounds s) (c : LeaveCause) (g : Station) : r.KeepsBounds (s.leaveEgress c g) :=
  ((((h.setEgress _).setBarrier _).laneEgressEnd.raise _ _ _ _).setLane _).applyIf statusTrigger

theorem enterOwnEgress (h : r.KeepsBounds s) : r.KeepsBounds s.enterOwnEgress := (h.enterEgress _ _).queueEvacuation _

theorem inputRaised (h : r.KeepsBounds s) : r.KeepsBounds s.inputRaised :=
  h.applyUnless fun h => ite (h.applyIf fun h => (h.setEgress _).queueEvacuation _) h.enterOwnEgress

theorem egressHeard (h : r.KeepsBounds s) (g : Station) : r.KeepsBounds (s.egressHeard g) := h.applyUnless (·.enterEgress _ _)

theorem egressEndHeard (h : r.KeepsBounds s) (g : Station) : r.KeepsBounds (s.egressEndHeard g) :=
  h.applyIf fun h => ite (h.queueEvacuation _) (h.leaveEgress _ _)

theorem takeEgressEnd (h : r.KeepsBounds s) : r.KeepsBounds s.takeEgressEnd.1 := by
  unfold State.takeEgressEnd
  split
  · exact h
  · split
    · exact ((h.leaveEgress _ _).queueEvacuation _).setEgress _
    · exact h

theorem startLane (h : r.KeepsBounds s) : r.KeepsBounds s.startLane :=
  ite ((h.setLane _).openCommand _) (h.applyIf (·.setLane _))

theorem takeStart (h : r.KeepsBounds s) : r.KeepsBounds s.takeStart.1 := by
  unfold State.takeStart
  split
  · exact (((h.setLocked _).setPresence _).setConverter _).startLane.applyIf enterOwnEgress
  · exact h

/-! ## Presentations and the list (R87 to R98, R109 to R112) -/

theorem acceptPresentation (h : r.KeepsBounds s) {p : Presentation} (fits : s.partiesFit → p.party ≤ 8) :
    r.KeepsBounds (s.acceptPresentation p) := by
  have waits : r.KeepsBounds (s.awaitPlaces p) :=
    (h.setAdmission _ fun fit q hq => by cases hq; exact fits fit).demand _
  exact ite (ite (h.admitParty _ _ fits) (h.awaitLink fits)) waits

/-- A PRESENT that passes its checks has a party that its class allows (R88), and no class allows more than 8 (R189). -/
theorem takePresent (h : r.KeepsBounds s) (key : TicketKey) (cls party : Byte) :
    r.KeepsBounds (State.takePresent key cls party s).1 := by
  unfold State.takePresent
  split
  · exact h
  next passes =>
    have allowed := State.party_allowed passes
    have numbered : r.KeepsBounds (s.setAdmission { s.admission with counter := (s.admission.counter + 1) % 256 }) :=
      h.setAdmission _ fun fit => fit.2.2
    refine numbered.acceptPresentation fun fit => ?_
    exact allowed.trans (State.maxParty_le fit.1 _)

theorem takeCancel (h : r.KeepsBounds s) (n : Byte) : r.KeepsBounds (State.takeCancel n s).1 := by
  unfold State.takeCancel
  split
  · exact h
  · split
    · split
      · exact h
      · exact h.refuse _ _
    · exact h

theorem insertEntry (h : r.KeepsBounds s) (e : ListEntry) : r.KeepsBounds (s.insertEntry e) := by
  unfold State.insertEntry
  split
  · exact h.setList _
  · split
    · exact h.setList _
    · exact (h.setList _).raise _ _ _ _

theorem offerTicket (h : r.KeepsBounds s) (key : TicketKey) (cls party : Nat) (g : Station) (w : Nat) (o : ListOrigin) :
    r.KeepsBounds (s.offerTicket key cls party g w o) := by
  unfold State.offerTicket
  split
  · exact h.raise _ _ _ _
  · exact h.applyUnless (·.insertEntry _)

/-! ## Good frames (R6, R29, R32, R34, R40, R97) -/

theorem heardAtStation (h : r.KeepsBounds s) (g : Station) : r.KeepsBounds (s.heardAtStation g) := by
  unfold State.heardAtStation
  dsimp only
  split
  · exact h
  · exact (h.setPresence _).queueKind _
  · exact h.setPresence _
  · exact (h.setPresence _).raise _ _ _ _

theorem peerHeard (h : r.KeepsBounds s) (g : Station) : r.KeepsBounds (s.peerHeard g) :=
  (h.setPresence _).applyUnless (·.raise _ _ _ _)

theorem heard (h : r.KeepsBounds s) (g : Station) (passes : Bool) {deliver : State → State}
    (kept : ∀ u, r.KeepsBounds u → r.KeepsBounds (deliver u)) : r.KeepsBounds (s.heard g passes deliver) :=
  h.applyUnless fun h => ite ((((h.setLink _).heardAtStation g).peerHeard g).applyIf (kept _)) (h.setLink _)

theorem statusHeard (h : r.KeepsBounds s) (g : Station) (w : Byte) (body : List Byte) :
    r.KeepsBounds (State.statusHeard g w body s) := by
  have recorded : r.KeepsBounds (s.recordStatus g w body) := h.setPresence _
  exact (ite (recorded.gateStatusHeard g w _) (recorded.applyIf (·.vesselStatusHeard w body))).applyIf
    (·.applyUnless (·.enterEgress _ _))

theorem ticketHeard (h : r.KeepsBounds s) (g : Station) (w : Byte) (body : List Byte) :
    r.KeepsBounds (State.ticketHeard g w body s) := by
  have atAdmission : r.KeepsBounds (s.peerTicket g (keyAt body 0)) := by
    unfold State.peerTicket
    split
    · exact h
    · exact h.applyIf (·.refuse _ _)
  exact atAdmission.offerTicket _ _ _ _ _ _

/-! ## The ends of a transmission (R14 to R20, R62, R93) -/

theorem serveDeferred (h : r.KeepsBounds s) : r.KeepsBounds s.serveDeferred := h.setLink _

theorem startHead (h : r.KeepsBounds s) (e : TxEntry) (rest : List TxEntry) (slots : Nat) :
    r.KeepsBounds (s.startHead e rest slots) := h.of_eq (by simp)

theorem loseOnce (h : r.KeepsBounds s) (e : TxEntry) (rest : List TxEntry) : r.KeepsBounds (s.loseOnce e rest) := by
  unfold State.loseOnce
  dsimp only
  split
  · exact (h.setLink _).refuse _ _
  · exact h.setLink _

theorem dropReport (h : r.KeepsBounds s) (e : TxEntry) : r.KeepsBounds (s.dropReport e) := by
  unfold State.dropReport
  split
  · exact h
  · exact h
  · exact h.raise _ _ _ _

theorem ownerDropped (h : r.KeepsBounds s) (e : TxEntry) : r.KeepsBounds (s.ownerDropped e) := by
  unfold State.ownerDropped
  split
  · exact h.refuse _ _
  · exact h.requeueGrant
  · exact h.windowEnded _
  · exact h.setEgress _
  all_goals exact h

theorem loseThird (h : r.KeepsBounds s) (e : TxEntry) (rest : List TxEntry) : r.KeepsBounds (s.loseThird e rest) :=
  (((h.dropReport e).setLink _).ownerDropped e).applyIf fun h => ite (h.queueEvacuation _) (h.queueKind _)

theorem lose (h : r.KeepsBounds s) : r.KeepsBounds s.lose := by
  unfold State.lose
  split
  · exact h
  · exact h.applyIf fun h => (ite (h.loseOnce _ _) (h.loseThird _ _)).serveDeferred

theorem ticketCompleted (h : r.KeepsBounds s) (e : TxEntry) : r.KeepsBounds (s.ticketCompleted e) := by
  have decided : r.KeepsBounds (match s.admission.record with
      | some p => s.admitParty p.number p.party p.window
      | none => s) := by
    split
    next p record => exact h.admitParty _ _ fun fit => fit.party record
    next => exact h
  unfold State.ticketCompleted
  dsimp only
  split
  · exact decided.offerTicket _ _ _ _ _ _
  · exact decided

theorem ownerCompleted (h : r.KeepsBounds s) (e : TxEntry) (f : Frame) : r.KeepsBounds (s.ownerCompleted e f) := by
  unfold State.ownerCompleted
  split
  · exact h.of_eq (by simp)
  · exact h.applyIf fun h => (h.setVessel _).requeueGrant
  · exact h.ticketCompleted e
  · exact h.windowEnded _
  · exact h.setEgress _
  all_goals exact h

/-! ## Requests of the host port and the full reset -/

theorem takeRequest (h : r.KeepsBounds s) {role : RequestRole} {body : State → State × Reply}
    (kept : r.KeepsBounds (body s).1) : r.KeepsBounds (s.takeRequest role body) :=
  State.takeRequest_keeps (Q := r.KeepsBounds) h (fun _ x h => h.setPort x) fun _ => kept

/-- A request that answers from the state alone. -/
theorem takeRequest_of_same (h : r.KeepsBounds s) {role : RequestRole} {body : State → State × Reply} (same : (body s).1 = s) :
    r.KeepsBounds (s.takeRequest role body) :=
  h.takeRequest (same.symm ▸ h)

/-- A record that is replaced has passed R189's checks. -/
theorem takeConfigure (h : r.KeepsBounds s) (b : List Byte) : r.KeepsBounds (State.takeConfigure b s).1 := by
  unfold State.takeConfigure
  split
  · exact h
  · split
    · exact h
    · split
      · exact h
      next checked => exact h.setConfig _ (ConfigRecord.ofPayload_inRange (firstBadField_eq_none_iff.1 checked))

theorem takeReadEvent (h : r.KeepsBounds s) : r.KeepsBounds s.takeReadEvent.1 := by
  unfold State.takeReadEvent
  split
  · exact h
  next records => exact h.setEvents _ (·.tail records)

theorem takeSetMask (h : r.KeepsBounds s) (mask : Byte) : r.KeepsBounds (State.takeSetMask mask s).1 := by
  unfold State.takeSetMask
  split
  · exact h
  · exact h.setEvents _ (·.congr rfl rfl)

theorem fullReset (r s : State) (straps : Station) : r.KeepsBounds (s.fullReset straps) :=
  ⟨fun _ => EventQueue.sound_afterReset, fun _ => ⟨ConfigRecord.default_inRange, Nat.zero_le _, nofun⟩⟩

end State.KeepsBounds

end Sys2Proof.Machine
end

section
/-! SUPPORT. The bounds of the event queue and of the parties at every step (R87, R121, R189, R192, R193): what each command keeps, command
by command, and both obligations. -/

namespace Sys2Proof.Machine

section

variable {s t : State}

open State.KeepsBounds

/-- A command of state `s` answers one within its bounds. -/
abbrev BoundsKeptBy (s : State) (o : Host.Outcome State Fault Refusal) : Prop := AnswersWith s.KeepsBounds o

/-! ## Commands of several cases -/

theorem execHostSessionEnd_keepsBounds (s : State) (straps : Station) : BoundsKeptBy s (execHostSessionEnd straps s) := by
  have port (p : HostPort) : s.KeepsBounds (s.setPort p) := (refl s).setPort p
  exact .next ((refl s).applyIf fun _ => ite (ite (fullReset s _ straps) (port _)) (ite (port _) (port _)))

theorem execSelftest_keepsBounds (s : State) : BoundsKeptBy s (execSelftest s) :=
  .next ((refl s).applyIf fun h => ite ((h.setPort _).setLink _) (h.setPort _))

theorem execRequestFailsMessageCheck_keepsBounds (s : State) (m : List Byte) :
    BoundsKeptBy s (execRequestFailsMessageCheck m s) := by
  refine .next ((refl s).applyIf fun h => ?_)
  split
  · exact h.setPort _
  · exact h

theorem execTransmitStart_keepsBounds (s : State) (slots : Nat) : BoundsKeptBy s (execTransmitStart slots s) := by
  refine .next ?_
  split
  · exact refl s
  · exact (refl s).applyIf (·.startHead _ _ _)

theorem execReadbackFault_keepsBounds (s : State) : BoundsKeptBy s (execReadbackFault s) := by
  refine .next ?_
  split
  · exact refl s
  · exact (refl s).applyIf fun h => (h.setLink _).lose.settled s

theorem execOwnFrameComplete_keepsBounds (s : State) : BoundsKeptBy s (execOwnFrameComplete s) := by
  refine .next ?_
  split
  · exact refl s
  · exact (refl s).applyIf fun h => ((h.setLink _).ownerCompleted _ _).serveDeferred.settled s

theorem execKeptDemandStart_keepsBounds (s : State) : BoundsKeptBy s (execKeptDemandStart s) := by
  refine .next ?_
  split
  · exact (refl s).applyIf fun h => (h.setAccount _).demand _
  · exact refl s

theorem execSilenceTimerExpiry_keepsBounds (s : State) (peer : Station) : BoundsKeptBy s (execSilenceTimerExpiry peer s) :=
  .next ((refl s).applyIf fun h => (((h.setPresence _).raise _ _ _ _).applyIf viewOrphan).settled s)

theorem execTrackerArm_keepsBounds (s : State) : BoundsKeptBy s (execTrackerArm s) :=
  .next ((refl s).applyIf fun h => ((h.setLane _).applyIf closeCommand).settled s)

theorem execEndSwitchInactive_keepsBounds (s : State) (e : EndId) : BoundsKeptBy s (execEndSwitchInactive e s) :=
  .next ((refl s).applyIf fun h => (h.setBarrier _).applyIf fun h => (h.setBarrier _).raise _ _ _ _)

/-- The millisecond count is no part of what the queue's bound is about, and the lane's ticks leave its passages (R192). -/
theorem execMillisecondCountAdvance_keepsBounds (s : State) : BoundsKeptBy s (execMillisecondCountAdvance s) :=
  .next ⟨fun h => h.congr rfl rfl, fun h => h⟩

/-! ## All of them -/

/-- A frame of another station. -/
theorem exec_frame_keepsBounds (c : Instr) (hc : isFrameHeard c = true) : BoundsKeptBy s (exec c s) := by
  have h := refl s
  cases c with
  | statusFrame g w b => exact .next ((h.heard g _ fun _ hu => hu.statusHeard g w b).settled s)
  | offerFrame g w b => exact .next ((h.heard g _ fun _ hu => hu.applyIf (·.offerHeard w b)).settled s)
  | closeFrame g w b => exact .next ((h.heard g _ fun _ hu => hu.applyIf (·.closeHeard w)).settled s)
  | grantFrame g w b => exact .next ((h.heard g _ fun _ hu => hu.applyIf (·.grantHeard w b)).settled s)
  | claimFrame g w b => exact .next (h.heard g _ fun _ hu => hu.applyIf (·.claimHeard g w _))
  | tallyFrame g w b => exact .next (h.heard g _ fun _ hu => hu.applyIf (·.tallyHeard g w _))
  | ticketFrame g w b => exact .next ((h.heard g _ fun _ hu => hu.ticketHeard g w b).settled s)
  | egressFrame g w b => exact .next ((h.heard g _ fun _ hu => hu.egressHeard g).settled s)
  | egressEndFrame g w b => exact .next ((h.heard g _ fun _ hu => hu.egressEndHeard g).settled s)
  | unknownKindFrame g k w b => exact .next (h.applyIf (·.heard g false fun _ hu => hu))
  | _ => cases hc

/-- Every command but a byte of the host port. -/
theorem exec_keepsBounds_of_ne_byte (c : Instr) (hc : ∀ b, c ≠ .hostByteCompleted b) : BoundsKeptBy s (exec c s) := by
  by_cases hf : isFrameHeard c = true
  · exact exec_frame_keepsBounds c hf
  have h := refl s
  cases c with
  | unknownKindFrame | statusFrame | offerFrame | closeFrame | claimFrame | grantFrame | ticketFrame | tallyFrame
  | egressFrame | egressEndFrame => exact absurd rfl hf
  | fullReset straps => exact .next (fullReset s s straps)
  | hostSessionEnd straps => exact execHostSessionEnd_keepsBounds s straps
  | replyReady => exact .next (h.applyIf (·.setPort _))
  | hselAsserted => exact .next (h.applyUnless (·.setPort _))
  | identify => exact .next (h.takeRequest h)
  | configure b => exact .next (h.takeRequest (h.takeConfigure b))
  | selftest => exact execSelftest_keepsBounds s
  | selftestEnd received => exact .next (h.applyIf fun h => (h.setLink _).setPort _)
  | start => exact .next ((h.takeRequest h.takeStart).settled s)
  | reset => exact .next (h.takeRequest (h.setPort _))
  | lookup key => exact .next (h.takeRequest_of_same (State.takeLookup_state key s))
  | query page => exact .next (h.takeRequest_of_same (State.takeQuery_state page s))
  | readEvent => exact .next (h.takeRequest h.takeReadEvent)
  | peekEvent => exact .next (h.takeRequest_of_same s.takePeekEvent_state)
  | setMask mask => exact .next (h.takeRequest (h.takeSetMask mask))
  | laneRestart => exact .next ((h.takeRequest h.restartLane).settled s)
  | clearFault => exact .next ((h.takeRequest h.clearFaults).settled s)
  | egressEnd => exact .next ((h.takeRequest h.takeEgressEnd).settled s)
  | present key cls party => exact .next ((h.takeRequest (h.takePresent key cls party)).settled s)
  | cancel number => exact .next ((h.takeRequest (h.takeCancel number)).settled s)
  | hold => exact .next ((h.takeRequest h.takeHold).settled s)
  | release => exact .next (h.takeRequest h.takeRelease)
  | openWindow => exact .next ((h.takeRequest h.takeOpenWindow).settled s)
  | closeWindow => exact .next (h.takeRequest h.takeCloseWindow)
  | setOnboard count => exact .next (h.takeRequest (h.takeSetOnboard count))
  | setLaneMode mode => exact .next ((h.takeRequest (h.takeLaneMode mode)).settled s)
  | lineIdle | badFrame _ | frameAbortHeard => exact .next (h.applyUnless (·.setLink _))
  | openingFlagFound => exact .next (h.applyIf (·.setLink _))
  | lineBusy => exact .next (h.setLink _)
  | transmitStart slots => exact execTransmitStart_keepsBounds s slots
  | lostArbitration => exact .next (h.lose.settled s)
  | readbackFault => exact execReadbackFault_keepsBounds s
  | ownFrameComplete => exact execOwnFrameComplete_keepsBounds s
  | listenTimerExpiry =>
    exact .next (h.applyIf fun h => (((h.setLink _).setPresence _).raise _ _ _ _).queueKind _)
  | isolationTimerExpiry => exact .next (h.applyIf fun h => ((h.setPresence _).raise _ _ _ _).closeWindow _)
  | rollTimerExpiry => exact .next (h.applyIf fun h => ((h.setPresence _).queueKind _).backgroundCheck)
  | silenceTimerExpiry peer => exact execSilenceTimerExpiry_keepsBounds s peer
  | tallyTimerExpiry => exact .next (h.applyIf (·.completeWindow _))
  | orphanTimerExpiry => exact .next (h.applyIf (·.abandon.settled s))
  | keptDemandStart => exact execKeptDemandStart_keepsBounds s
  | claimRepeatTimerExpiry => exact .next (h.applyIf fun h => (h.setAccount _).queueKind _)
  | claimWaitTimerExpiry => exact .next (h.applyIf fun h => (h.endClaimWith _).settled s)
  | listSecondTimerExpiry => exact .next (h.applyIf (·.setList _))
  | passageWaitExpiry => exact .next (h.applyIf fun h => (h.refund _).settled s)
  | clearTimerExpiry => exact .next (h.applyIf fun h => (h.setLane _).closeCommand.settled s)
  | trackerArm => exact execTrackerArm_keepsBounds s
  | loiterTimerExpiry p => exact .next (h.applyIf fun h => (h.setLoiter _ _).raise _ _ _ _)
  | zeroPhaseEnd offset => exact .phaseEnd _ h fun _ => ite (h.setConverter _) ((h.badConversion _ _).settled s)
  | integratePhaseEnd => exact .phaseEnd _ h fun _ => h.setConverter _
  | rundownCrossing tick => exact .phaseEnd _ h fun _ => h.applyIf fun h => (h.goodConversion _ _).settled s
  | rundownOverrange => exact .phaseEnd _ h fun _ => (h.badConversion _ _).settled s
  | endSwitchActive e => exact .next (h.applyUnless fun h => ((h.setBarrier _).switchActive e).settled s)
  | endSwitchInactive e => exact execEndSwitchInactive_keepsBounds s e
  | stall => exact .next (h.applyIf fun h => (ite h.obstruction h.stallByMode).settled s)
  | brakeTimerExpiry => exact .next (h.applyIf (·.setBarrier _))
  | travelTimerExpiry => exact .next (h.applyIf fun h => (h.setBarrier _).travelByMode.settled s)
  | pauseTimerExpiry => exact .next (h.applyIf fun h => (h.setBarrier _).endPause.settled s)
  | pendingCloseTaken => exact .next (h.applyIf (·.commandTaken.beginClose.settled s))
  | reDriveStart => exact .next (h.applyIf fun h => (h.setBarrier _).settled s)
  | egressInputActive => exact .next (h.applyUnless fun h => (h.setEgress _).inputRaised.settled s)
  | egressInputInactive => exact .next (h.setEgress _)
  | hostByteCompleted b => exact absurd rfl (hc b)
  | requestFailsMessageCheck m => exact execRequestFailsMessageCheck_keepsBounds s m
  | millisecondCountAdvance => exact execMillisecondCountAdvance_keepsBounds s

theorem exec_keepsBounds (c : Instr) (s : State) : BoundsKeptBy s (exec c s) := by
  cases c with
  | hostByteCompleted b =>
    refine execHostByteCompleted_answersWith (P := s.KeepsBounds) b (fun _ => id) (fun _ x h => h.setPort x)
      (fun _ c u hr h => ?_) (refl s)
    obtain ⟨t, answered, kept⟩ := exec_keepsBounds_of_ne_byte (s := u) c (requestOf_ne_byte hr)
    exact ⟨t, answered, h.trans kept⟩
  | _ => exact exec_keepsBounds_of_ne_byte _ (by simp)

theorem step_keepsBounds (stepped : step s = .next t) : s.KeepsBounds t :=
  AnswersWith.of_step (Q := s.KeepsBounds) stepped (fun _ => refl s) fun c rest _ => by
    obtain ⟨u, answered, kept⟩ := exec_keepsBounds c (s.setPending rest)
    exact ⟨u, answered, ((refl s).setPending rest).trans kept⟩

end

/-- Settles O8: a raised record takes the next number and is lost at a full queue, and a read takes the oldest, so every command
keeps the queue's size and its run of numbers. -/
theorem eventQueueStaysSound : Obligations.EventQueueStaysSound := fun _ _ sound stepped =>
  (step_keepsBounds stepped).events sound

/-- Settles O12: a party is authorised from a presentation alone, a presentation is accepted within its class's largest party, and a
record replaced by CONFIGURE has every largest party at 8 or fewer. -/
theorem passagesNeverExceedEight : Obligations.PassagesNeverExceedEight := fun _ _ fit stepped =>
  (step_keepsBounds stepped).parties fit

end Sys2Proof.Machine
end

section
/-! SUPPORT. The requests IDENTIFY, QUERY, CONFIGURE and START (R187 to R190): what each gives by the state that takes it, and the code of
each field that a reply carries. -/

namespace Sys2Proof.Machine

section GeneralRequests

variable {s : State} {b : List Byte} {page : Byte}

/-! ## IDENTIFY (R187) -/

theorem exec_identify (hc : s.canTake = true) : exec .identify s = .next (s.reply ⟨1, s.identity⟩) :=
  congrArg Host.Outcome.next (State.takeRequest_both hc)

theorem StationState.byte_code (x : StationState) :
    byteOf x.code = match x with | .setup => 0 | .listen => 1 | .active => 2 | .isolated => 3 := by
  cases x <;> rfl

theorem State.flag_isGate (s : State) : flagByte s.isGate = if s.presence.number = 0 then 0 else 1 := by
  by_cases vessel : s.presence.number = 0 <;> simp [State.isGate, State.isVessel, flagByte, vessel]

theorem State.identity_eq (s : State) :
    s.identity =
      [6, 86, 1, 64, 1, byteOf s.presence.number.toNat, if s.presence.number = 0 then 0 else 1,
        byteOf s.presence.state.code] := by
  have vendor : countBytes Config.vendorCode = [6, 86] := by decide
  have part : countBytes Config.partCode = [1, 64] := by decide
  rw [State.identity, vendor, part, State.flag_isGate]
  rfl

/-! ## CONFIGURE (R189) -/

theorem exec_configure (hc : s.canTake = true) :
    exec (.configure b) s = .next ((State.takeConfigure b s).1.reply (State.takeConfigure b s).2) :=
  congrArg Host.Outcome.next (State.takeRequest_both hc)

theorem State.takeConfigure_of_locked (size : b.length = 30) (locked : s.locked = true) :
    State.takeConfigure b s = (s, ⟨2, [19, 0]⟩) := by
  rw [State.takeConfigure, if_neg (not_not_intro size), if_pos locked]
  rfl

theorem State.takeConfigure_of_bad {k : Nat} (size : b.length = 30) (unlocked : s.locked = false)
    (bad : firstBadField b = some k) : State.takeConfigure b s = (s, ⟨2, [20, BitVec.ofNat 8 k]⟩) := by
  rw [State.takeConfigure, if_neg (not_not_intro size), if_neg (by simp [unlocked]), bad]
  rfl

theorem State.takeConfigure_of_checked (size : b.length = 30) (unlocked : s.locked = false)
    (checked : firstBadField b = none) :
    State.takeConfigure b s = (s.setConfig (ConfigRecord.ofPayload b), ⟨1, []⟩) := by
  rw [State.takeConfigure, if_neg (not_not_intro size), if_neg (by simp [unlocked]), checked]
  rfl

/-- No field after the last has a range. -/
theorem fieldInRange_of_upTo_last (ranges : ∀ k, k ≤ 27 → fieldInRange b k) (k : Nat) : fieldInRange b k := by
  by_contra bad
  have last : ∀ i ∈ rangedFields, i ≤ 27 := by decide
  exact bad (ranges k (last k (mem_rangedFields_of_bad bad)))

/-- A fault mode byte in range is the code of the mode it spells (R189). -/
theorem FaultMode.code_ofCode {n : Nat} (h : n ≤ 3) :
    (match FaultMode.ofCode n with | .latch => 0 | .retry => 1 | .report => 2 | .ignore => 3) = n := by
  interval_cases n <;> rfl

theorem ConfigRecord.ofPayload_classes (b : List Byte) (i : Fin 8) :
    (ConfigRecord.ofPayload b).classes[i] = ⟨natAt b (14 + 2 * i), natAt b (15 + 2 * i)⟩ := by
  simp [ConfigRecord.ofPayload]

end GeneralRequests

/-- Settles O24: the codes are constants, and the role and the station state have their codes in a byte. -/
theorem identifyReply : Obligations.IdentifyReply := by
  intro s hc
  rw [exec_identify hc, State.identity_eq, StationState.byte_code]
  rfl

/-- Settles O25: the record's checks are R189's ranges in the order of their indices, so the first to fail names the lowest field, and none
fails exactly when all are in range. -/
theorem configureChecksEveryField : Obligations.ConfigureChecksEveryField := by
  intro s b hc size
  refine ⟨fun locked => ?_, fun unlocked k _ lower bad => ?_, fun unlocked ranges => ?_⟩
  · rw [exec_configure hc, State.takeConfigure_of_locked size locked]
  · rw [exec_configure hc, State.takeConfigure_of_bad size unlocked (firstBadField_eq_some lower bad)]
  · have all := fieldInRange_of_upTo_last ranges
    rw [exec_configure hc, State.takeConfigure_of_checked size unlocked (firstBadField_eq_none_iff.2 all)]
    exact ⟨ConfigRecord.ofPayload b, rfl, rfl, rfl, rfl, rfl, rfl, rfl, rfl, FaultMode.code_ofCode (all 8), rfl, rfl, rfl,
      ConfigRecord.ofPayload_classes b, ConfigRecord.ofPayload_inRange all⟩

end Sys2Proof.Machine
end

section
/-! SUPPORT. QUERY page by page (R188): the code of each field in its byte, and each page's bytes in their order. -/

namespace Sys2Proof.Machine

section Pages

variable {s : State} {page : Byte}

/-! ## The codes in their bytes -/

theorem EgressOrigin.byte_code (x : EgressOrigin) : byteOf x.code = match x with | .none => 0 | .own => 1 | .peer => 2 := by
  cases x <;> rfl

theorem ViewState.byte_code (x : ViewState) :
    byteOf x.code = match x with | .none => 0 | .opened => 1 | .orphaned => 2 | .closed => 3 := by
  cases x <;> rfl

theorem Claim.byte_code (x : Claim) : byteOf x.code = match x with | .none => 0 | .background => 1 | .demand => 2 := by
  cases x <;> rfl

theorem byte_presentationCode (x : Option Presentation) :
    byteOf (presentationCode x) =
      match x with
      | none => 0
      | some p => match p.state with | .awaitPlaces => 1 | .awaitLink => 2 := by
  rcases x with _ | ⟨_, _, _, _, _, _ | _, _⟩ <;> rfl

theorem WindowState.byte_code (x : WindowState) :
    byteOf x.code = match x with | .none => 0 | .opened => 1 | .closing => 2 := by
  cases x <;> rfl

theorem LaneState.byte_code (x : LaneState) :
    byteOf x.code =
      match x with
      | .idle => 0 | .opening => 1 | .opened => 2 | .closing => 3 | .held => 4 | .fault => 5 | .egress => 6 | .flow => 7 := by
  cases x <;> rfl

theorem FaultCause.byte_code (x : Option FaultCause) :
    byteOf ((x.map FaultCause.code).getD 0) =
      match x with
      | none => 0 | some .plateA => 1 | some .plateB => 2 | some .stall => 3 | some .travel => 4 | some .switch => 5 := by
  rcases x with _ | _ | _ | _ | _ | _ <;> rfl

theorem TrackerState.byte_code (x : TrackerState) :
    byteOf x.code = match x with | .none => 0 | .entering => 1 | .crossing => 2 | .leaving => 3 := by
  cases x <;> rfl

theorem Direction.byte_code (x : Direction) : byteOf x.code = match x with | .forward => 0 | .reverse => 1 := by
  cases x <;> rfl

theorem LaneMode.byte_code (x : LaneMode) : byteOf x.code = match x with | .flow => 0 | .alight => 1 := by
  cases x <;> rfl

theorem PlateClass.byte_code (x : PlateClass) :
    byteOf x.code = match x with | .empty => 0 | .occupied => 1 | .multiple => 2 := by
  cases x <;> rfl

theorem ConversionResult.byte_code (x : ConversionResult) :
    byteOf x.code = match x with | .none => 0 | .good => 1 | .overrange => 2 | .zeroFault => 3 := by
  cases x <;> rfl

theorem BarrierState.byte_code (x : BarrierState) :
    byteOf x.code =
      match x with
      | .unknown => 0 | .closed => 1 | .opening => 2 | .opened => 3 | .closing => 4 | .paused => 5 | .halted => 6 := by
  cases x <;> rfl

theorem BarrierOutput.byte_code (x : BarrierOutput) :
    byteOf x.code = match x with | .off => 0 | .driveOpen => 1 | .driveClose => 2 | .brake => 3 := by
  cases x <;> rfl

theorem PeerPresence.byte_code (x : PeerPresence) :
    byteOf x.code = match x with | .unknown => 0 | .present => 1 | .absent => 2 := by
  cases x <;> rfl

theorem endField_eq (x : Option EndId) :
    endField x = match x with | none => 0 | some .openEnd => 1 | some .closedEnd => 2 := by
  rcases x with _ | _ | _ <;> rfl

/-- One entry of the peer pages, by whether a STATUS record is held (R33, R188). -/
theorem Peer.page_eq (e : Peer) (n own : Station) :
    e.page n own =
      [byteOf e.presence.code, flagByte e.egress]
        ++ match e.record with
          | none => [0, 0] ++ countBytes 0
          | some r => [r.window, byteAt r.body 0] ++ countBytes (if n = 0 ∨ n = own then 0 else wordAt r.body 12) := by
  unfold Peer.page Peer.held
  rcases e.record with _ | r <;> rfl

/-! ## QUERY -/

theorem exec_query (hc : s.canTake = true) : exec (.query page) s = .next (s.reply (State.takeQuery page s).2) := by
  refine congrArg Host.Outcome.next (?_ : s.takeRequest .both (State.takeQuery page) = _)
  rw [State.takeRequest_both hc, State.takeQuery_state]

/-- A page that the station has (R188). -/
theorem exec_query_of_page {body : List Byte} (hc : s.canTake = true) (shown : (State.takeQuery page s).2 = .ok (page :: body)) :
    exec (.query page) s = .next (s.reply ⟨1, page :: body⟩) := by
  rw [exec_query hc, shown]
  rfl

theorem State.takeQuery_one_of_gate (gate : s.presence.number ≠ 0) :
    (State.takeQuery 1 s).2 = .ok (1 :: s.pageGate) := by
  have notVessel : ¬s.isVessel = true := mt State.isVessel_iff.1 gate
  exact congrArg (fun body => Reply.ok (1 :: body)) (if_neg notVessel)

theorem State.takeQuery_one_of_vessel (vessel : s.presence.number = 0) :
    (State.takeQuery 1 s).2 = .ok (1 :: s.pageVessel) :=
  congrArg (fun body => Reply.ok (1 :: body)) (if_pos (State.isVessel_iff.2 vessel))

/-- The account pages are the vessel station's alone (R188). -/
theorem State.takeQuery_accounts_of_gate (gate : s.presence.number ≠ 0) :
    (State.takeQuery 5 s).2 = ⟨2, [16, 0]⟩ ∧ (State.takeQuery 6 s).2 = ⟨2, [16, 0]⟩ := by
  have notVessel : ¬s.isVessel = true := mt State.isVessel_iff.1 gate
  exact ⟨congrArg Prod.snd (if_neg notVessel), congrArg Prod.snd (if_neg notVessel)⟩

theorem State.takeQuery_accounts_of_vessel (vessel : s.presence.number = 0) :
    (State.takeQuery 5 s).2 = .ok (5 :: s.pageAccounts 1 8) ∧ (State.takeQuery 6 s).2 = .ok (6 :: s.pageAccounts 9 7) := by
  have vessel := State.isVessel_iff.2 vessel
  exact ⟨congrArg Prod.snd (if_pos vessel), congrArg Prod.snd (if_pos vessel)⟩

theorem State.takeQuery_of_noPage (beyond : 6 < page.toNat) : (State.takeQuery page s).2 = ⟨2, [20, 1]⟩ := by
  unfold State.takeQuery
  dsimp only
  split
  case h_8 => rfl
  all_goals omega

/-! ## The pages in their bytes -/

theorem State.pageStation_eq (s : State) :
    s.pageStation =
      [byteOf s.presence.number.toNat, flagByte (s.presence.number != 0),
        (match s.presence.state with | .setup => 0 | .listen => 1 | .active => 2 | .isolated => 3),
        byteOf s.link.lastSender.toNat, flagByte s.inEgress,
        (match s.egress.origin with | .none => 0 | .own => 1 | .peer => 2),
        flagByte s.egress.input, flagByte s.egress.endMark, byteOf s.events.records.length,
        s.events.mask.zeroExtend 8] := by
  rw [State.pageStation, StationState.byte_code, EgressOrigin.byte_code]
  rfl

end Pages

/-- Settles O27: each page is its list of fields, with every code by its cases; a page above 6 is no page. -/
theorem queryGivesOnePage : Obligations.QueryGivesOnePage := by
  intro s hc bit byte plate towards peers accounts
  have peersPage (first : Nat) : s.pagePeers first = peers first := by
    simp only [State.pagePeers, Peer.page_eq, PeerPresence.byte_code]
    rfl
  refine ⟨?_, fun gate => ⟨?_, ?_, ?_⟩, fun vessel => ⟨?_, ?_, ?_⟩, ?_, ?_, ?_, fun page beyond => ?_⟩
  · rw [exec_query_of_page hc (page := 0) rfl, State.pageStation_eq]
    rfl
  · rw [exec_query_of_page hc (State.takeQuery_one_of_gate gate), State.pageGate, ViewState.byte_code, Claim.byte_code,
      byte_presentationCode]
    rfl
  · rw [exec_query hc, (State.takeQuery_accounts_of_gate gate).1]
  · rw [exec_query hc, (State.takeQuery_accounts_of_gate gate).2]
  · rw [exec_query_of_page hc (State.takeQuery_one_of_vessel vessel), State.pageVessel, WindowState.byte_code]
    rfl
  · exact exec_query_of_page hc (State.takeQuery_accounts_of_vessel vessel).1
  · exact exec_query_of_page hc (State.takeQuery_accounts_of_vessel vessel).2
  · rw [exec_query_of_page hc (page := 2) rfl]
    simp only [State.pageLane, LaneState.byte_code, FaultCause.byte_code, TrackerState.byte_code, Direction.byte_code,
      LaneMode.byte_code, Plate.page, PlateClass.byte_code, ConversionResult.byte_code, Barrier.page,
      BarrierState.byte_code, BarrierOutput.byte_code, endField_eq]
    rfl
  · rw [exec_query_of_page hc (page := 3) rfl, peersPage]
  · rw [exec_query_of_page hc (page := 4) rfl, peersPage]
  · rw [exec_query hc, State.takeQuery_of_noPage beyond]

end Sys2Proof.Machine
end

section
/-! SUPPORT. START (R28, R126, R190): the station as it begins, the lane by its role and mode, and egress where the input is active. -/

namespace Sys2Proof.Machine

section Start

variable {s : State}

/-- The record locked, the station listening and the converter begun (R28, R146, R190). -/
def State.startBegun (s : State) : State :=
  ((s.setLocked true).setPresence { s.presence with state := .listen, listenTimer := .running 300 }).setConverter
    s.converter.begun

theorem exec_start (hc : s.canTake = true) :
    exec .start s = .next (settleClear s (s.takeStart.1.reply s.takeStart.2)) :=
  congrArg (fun t => Host.Outcome.next (settleClear s t)) (State.takeRequest_both hc)

theorem State.takeStart_of_started (started : s.presence.state ≠ .setup) : s.takeStart = (s, ⟨2, [17, 0]⟩) :=
  if_neg started

theorem State.takeStart_of_setup (setup : s.presence.state = .setup) :
    s.takeStart =
      (if s.egress.input then s.startBegun.startLane.enterOwnEgress else s.startBegun.startLane, ⟨1, []⟩) := by
  have input : s.startBegun.startLane.egress.input = s.egress.input := by simp [State.startBegun]
  rw [State.takeStart, if_pos setup, ← input]
  rfl

theorem State.startLane_of_gate (gate : s.presence.number ≠ 0) : s.startLane = s := by
  have notVessel : ¬s.isVessel = true := mt State.isVessel_iff.1 gate
  rw [State.startLane, if_neg fun flow => gate (State.flowMode_iff.1 flow).1, if_neg notVessel]

theorem State.startLane_of_flow (vessel : s.presence.number = 0) (flow : s.lane.mode = .flow) (noFault : s.lane.state ≠ .fault) :
    s.startLane = (s.setLane { s.lane with state := .flow }).openCommand false := by
  rw [State.startLane, if_pos (State.flowMode_iff.2 ⟨vessel, flow⟩), if_neg noFault]

theorem State.startLane_of_alight (vessel : s.presence.number = 0) (alight : s.lane.mode ≠ .flow)
    (noFault : s.lane.state ≠ .fault) : s.startLane = s.setLane { s.lane with state := .idle } := by
  rw [State.startLane, if_neg fun flow => alight (State.flowMode_iff.1 flow).2, if_pos (State.isVessel_iff.2 vessel),
    if_neg noFault]

/-- The lane that START gives, by role and mode (R126). -/
theorem State.startLane_eq (noFault : s.lane.state ≠ .fault) :
    s.startLane =
      if s.presence.number ≠ 0 then s
      else if s.lane.mode = .flow then (s.setLane { s.lane with state := .flow }).openCommand false
      else s.setLane { s.lane with state := .idle } := by
  split
  next gate => exact State.startLane_of_gate gate
  next vessel =>
    split
    next flow => exact State.startLane_of_flow (not_not.1 vessel) flow noFault
    next alight => exact State.startLane_of_alight (not_not.1 vessel) alight noFault

/-- The station enters egress under its own number, which START leaves (R177). -/
theorem State.startLane_enterOwnEgress (s : State) :
    s.startBegun.startLane.enterOwnEgress =
      (s.startBegun.startLane.enterEgress .own s.presence.number).queueEvacuation .egress := by
  have number : s.startBegun.startLane.presence.number = s.presence.number := by simp [State.startBegun]
  rw [State.enterOwnEgress, number]

end Start

/-- Settles O26: START is refused outside SETUP; in SETUP it is the station begun, its lane by role and mode, and own egress where the
input is active. -/
theorem startBeginsTheStation : Obligations.StartBeginsTheStation := by
  intro s hc
  refine ⟨fun started => ?_, fun setup noFault => ?_⟩
  · rw [exec_start hc, State.takeStart_of_started started]
  · intro begun lane
    have laneEq : s.startBegun.startLane = lane := State.startLane_eq (s := s.startBegun) noFault
    rw [exec_start hc, State.takeStart_of_setup setup, State.startLane_enterOwnEgress, laneEq]

end Sys2Proof.Machine
end

section
/-! SUPPORT. Bytes and sessions at the host port (R182, R183): each port command by the port's state, and when a request message is
complete. -/

namespace Sys2Proof.Machine

section Port

variable {s : State} {b : Byte} {straps : Station} {m : List Byte}

theorem messageComplete_iff : messageComplete m = true ↔ 2 ≤ m.length ∧ (60 < natAt m 1 ∨ natAt m 1 + 3 ≤ m.length) := by
  simp only [messageComplete, Bool.and_eq_true, Bool.or_eq_true, decide_eq_true_iff]
  exact .rfl

/-- The port in RECEIVE with the message so far (R183). -/
def State.receiving (s : State) (m : List Byte) : State :=
  s.setPort { s.port with state := .receive, request := m, hdo := 0 }

/-! ## HSEL_ASSERTED (R182) -/

theorem exec_hselAsserted_of_outside (outside : s.port.hsel = false) :
    exec .hselAsserted s =
      .next (s.setPort { s.port with hsel := true, offered := s.port.state == .reply, shifted := 0 }) :=
  congrArg Host.Outcome.next (if_neg (by simp [outside]))

theorem exec_hselAsserted_of_session (session : s.port.hsel = true) : exec .hselAsserted s = .next s :=
  congrArg Host.Outcome.next (if_pos session)

/-! ## HOST_BYTE_COMPLETED (R182, R183) -/

theorem exec_hostByteCompleted_of_outside (outside : s.port.hsel = false) : exec (.hostByteCompleted b) s = .next s :=
  if_neg (by simp [outside])

theorem exec_hostByteCompleted_of_work (session : s.port.hsel = true) (work : s.port.state = .work) :
    exec (.hostByteCompleted b) s = .next (s.setPort { s.port with hdo := 0 }) := by
  refine (if_pos session).trans ?_
  rw [work]

theorem exec_hostByteCompleted_of_reply (session : s.port.hsel = true) (reply : s.port.state = .reply) :
    exec (.hostByteCompleted b) s =
      .next (s.setPort
        { s.port with
          hdo := s.port.dueByte
          shifted := if s.port.offered then min (s.port.shifted + 1) s.port.reply.length else s.port.shifted }) := by
  refine (if_pos session).trans ?_
  rw [reply]

theorem exec_hostByteCompleted_of_receive (session : s.port.hsel = true)
    (arriving : s.port.state = .idle ∨ s.port.state = .receive) : exec (.hostByteCompleted b) s = s.receiveByte b := by
  refine (if_pos session).trans ?_
  rcases arriving with idle | receive
  · rw [idle]
  · rw [receive]

theorem State.receiveByte_of_incomplete (incomplete : ¬messageComplete (s.port.request ++ [b]) = true) :
    s.receiveByte b = .next (s.receiving (s.port.request ++ [b])) :=
  if_neg incomplete

/-- The byte that completes a message has it checked, and the message that passes handed on (R184). -/
theorem State.receiveByte_of_complete (complete : messageComplete (s.port.request ++ [b]) = true) :
    s.receiveByte b =
      ((s.receiving (s.port.request ++ [b])).messageCheck (s.port.request ++ [b])).elim
        (handRequest (s.port.request ++ [b]) (s.receiving (s.port.request ++ [b])))
        fun reason => .next ((s.receiving (s.port.request ++ [b])).reply (.refused reason)) := by
  refine (if_pos complete).trans ?_
  rw [State.receiving]
  cases State.messageCheck _ _ <;> rfl

/-! ## HOST_SESSION_END (R183) -/

theorem exec_hostSessionEnd_of_outside (outside : s.port.hsel = false) : exec (.hostSessionEnd straps) s = .next s :=
  congrArg Host.Outcome.next (if_neg (by simp [outside]))

theorem exec_hostSessionEnd_of_receive (session : s.port.hsel = true) (receive : s.port.state = .receive) :
    exec (.hostSessionEnd straps) s =
      .next (s.setPort { s.port with state := .idle, hsel := false, request := [], offered := false, shifted := 0 }) := by
  have unread : ¬s.port.readToEnd = true := by simp [HostPort.readToEnd, receive]
  refine congrArg Host.Outcome.next ((if_pos session).trans ?_)
  exact (if_neg unread).trans (if_pos receive)

end Port

/-- Settles O22: each port command by HSEL and the port's state; a message that is not complete is stored. -/
theorem requestBytesAreStored : Obligations.RequestBytesAreStored := by
  intro s b straps
  refine ⟨fun outside => ?_, exec_hselAsserted_of_session, fun session arriving short => ?_,
    exec_hostByteCompleted_of_work, exec_hostSessionEnd_of_receive⟩
  · exact ⟨exec_hselAsserted_of_outside outside, exec_hostByteCompleted_of_outside outside,
      exec_hostSessionEnd_of_outside outside⟩
  · have incomplete : ¬messageComplete (s.port.request ++ [b]) = true := by
      rw [messageComplete_iff]
      omega
    exact (exec_hostByteCompleted_of_receive session arriving).trans (State.receiveByte_of_incomplete incomplete)

end Sys2Proof.Machine
end

section
/-! SUPPORT. The message checks in their order (R184): the table of requests read by kind code, and what each failing check answers, by a
byte or by the whole message. -/

namespace Sys2Proof.Machine

section Checks

variable {s : State} {b : Byte} {m : List Byte} {reason : RequestReason} {entry : Nat × Nat × RequestRole}

/-! ## The table of requests -/

theorem requestShape_of_mem : ∀ entry ∈ requestTable, requestShape entry.1 = some entry.2 := by decide

theorem requestShape_listed (code : Nat) : requestShape code = none ∨ ∃ entry ∈ requestTable, entry.1 = code := by
  rcases Nat.lt_or_ge code 22 with low | high
  · exact (by decide : ∀ code < 22, requestShape code = none ∨ ∃ entry ∈ requestTable, entry.1 = code) code low
  · obtain ⟨n, rfl⟩ := Nat.exists_eq_add_of_le' high
    exact .inl rfl

theorem requestShape_of_unlisted {code : Nat} (unlisted : ∀ entry ∈ requestTable, entry.1 ≠ code) :
    requestShape code = none :=
  (requestShape_listed code).resolve_right fun ⟨entry, listed, isCode⟩ => unlisted entry listed isCode

/-! ## The first failing check -/

theorem State.messageCheck_of_long (long : 60 < natAt m 1) : s.messageCheck m = some .length := if_pos long

theorem State.messageCheck_of_badCheck (fits : natAt m 1 ≤ 60) (sum : m.foldl (· + ·) 0 ≠ 0) :
    s.messageCheck m = some .badCheck :=
  (if_neg (Nat.not_lt.2 fits)).trans (if_pos sum)

/-- Past the first two checks the kind code's shape decides. -/
theorem State.messageCheck_of_sum (fits : natAt m 1 ≤ 60) (sum : m.foldl (· + ·) 0 = 0) :
    s.messageCheck m =
      (requestShape (natAt m 0)).elim (some .unknown) fun shape =>
        if natAt m 1 ≠ shape.1 then some .length else if s.hasRole shape.2 then none else some .role := by
  rw [State.messageCheck, if_neg (show ¬Config.maxPayload < natAt m 1 from Nat.not_lt.2 fits), if_neg (not_not_intro sum)]
  cases requestShape (natAt m 0) <;> rfl

theorem State.messageCheck_of_unknown (fits : natAt m 1 ≤ 60) (sum : m.foldl (· + ·) 0 = 0)
    (unlisted : ∀ entry ∈ requestTable, entry.1 ≠ natAt m 0) : s.messageCheck m = some .unknown := by
  rw [State.messageCheck_of_sum fits sum, requestShape_of_unlisted unlisted]
  rfl

theorem State.messageCheck_of_entry (fits : natAt m 1 ≤ 60) (sum : m.foldl (· + ·) 0 = 0) (listed : entry ∈ requestTable)
    (code : entry.1 = natAt m 0) :
    s.messageCheck m =
      if natAt m 1 ≠ entry.2.1 then some .length else if s.hasRole entry.2.2 then none else some .role := by
  rw [State.messageCheck_of_sum fits sum, ← code, requestShape_of_mem entry listed]
  rfl

/-! ## What a message that is complete answers -/

theorem State.receiving_messageCheck (s : State) (m : List Byte) : (s.receiving m).messageCheck m = s.messageCheck m := rfl

theorem exec_requestFailsMessageCheck_of_failed (arriving : s.port.state = .idle ∨ s.port.state = .receive)
    (complete : messageComplete m = true) (failed : s.messageCheck m = some reason) :
    exec (.requestFailsMessageCheck m) s = .next (s.reply (.refused reason)) := by
  have taken : s.canTake = true := by simpa [State.canTake] using arriving
  refine congrArg Host.Outcome.next ((if_pos ⟨taken, complete⟩).trans ?_)
  rw [failed]

theorem exec_hostByteCompleted_of_failed (session : s.port.hsel = true)
    (arriving : s.port.state = .idle ∨ s.port.state = .receive) (whole : m = s.port.request ++ [b])
    (complete : messageComplete m = true) (failed : s.messageCheck m = some reason) :
    exec (.hostByteCompleted b) s = .next ((s.receiving m).reply (.refused reason)) := by
  subst whole
  rw [exec_hostByteCompleted_of_receive session arriving, State.receiveByte_of_complete complete,
    State.receiving_messageCheck, failed]
  rfl

theorem exec_hostByteCompleted_of_passed {c : Instr} (session : s.port.hsel = true)
    (arriving : s.port.state = .idle ∨ s.port.state = .receive) (complete : messageComplete (s.port.request ++ [b]) = true)
    (passed : s.messageCheck (s.port.request ++ [b]) = none) (spelled : requestOf (s.port.request ++ [b]) = some c) :
    exec (.hostByteCompleted b) s = exec c (s.receiving (s.port.request ++ [b])) := by
  rw [exec_hostByteCompleted_of_receive session arriving, State.receiveByte_of_complete complete,
    State.receiving_messageCheck, passed, Option.elim_none, handRequest_eq, spelled]
  rfl

end Checks

/-- Settles O23: a complete message answers by its first failing check alone, whichever command brings it, and a message that passes is the
request that it spells. -/
theorem completedMessagesAreChecked : Obligations.CompletedMessagesAreChecked := by
  refine ⟨fun s b c session arriving => ?_, fun s m arriving size => ?_⟩
  · intro m size fits long sum ⟨entry, listed, code, payload, role⟩ spelled
    have passed : s.messageCheck m = none := by
      rw [State.messageCheck_of_entry fits sum listed code, if_neg (not_not_intro payload.symm), if_pos role]
    exact exec_hostByteCompleted_of_passed session arriving (messageComplete_iff.2 ⟨size, .inr long⟩) passed spelled
  · intro refused
    have answers {c : Instr} {u : State}
        (failing : ∀ {reason}, messageComplete m = true → s.messageCheck m = some reason →
          exec c s = .next (u.reply (.refused reason))) : refused c u := by
      refine ⟨fun long => failing (messageComplete_iff.2 ⟨size, .inl long⟩) (State.messageCheck_of_long long),
        fun fits whole => ?_⟩
      have failing {reason : RequestReason} := failing (reason := reason) (messageComplete_iff.2 ⟨size, .inr whole.ge⟩)
      refine ⟨fun bad => failing (State.messageCheck_of_badCheck fits bad),
        fun sum => ⟨fun unlisted => failing (State.messageCheck_of_unknown fits sum unlisted),
          fun entry listed code => ⟨fun payload => ?_, fun payload role => ?_⟩⟩⟩
      · exact failing ((State.messageCheck_of_entry fits sum listed code).trans (if_pos payload.symm))
      · refine failing (reason := .role) ((State.messageCheck_of_entry fits sum listed code).trans ?_)
        rw [if_neg (not_not_intro payload.symm), role]
        rfl
    exact ⟨answers (exec_requestFailsMessageCheck_of_failed arriving),
      fun b session whole => answers (exec_hostByteCompleted_of_failed session arriving whole)⟩

end Sys2Proof.Machine
end

section
/-! SUPPORT. Replies (R183 to R185, R191): a message's sum, requests while a reply is held, the sessions that read a reply, and RESET. -/

namespace Sys2Proof.Machine

section Replies

variable {s : State} {straps : Station}

/-! ## A reply's message (R183) -/

theorem message_sum (bytes : List Byte) : (bytes ++ [checkByte bytes]).foldl (· + ·) 0 = 0 := by
  rw [List.foldl_concat, checkByte]
  bv_omega

/-! ## Requests while the port is busy (R185) -/

theorem State.not_canTake_of_busy (busy : s.port.state = .work ∨ s.port.state = .reply) : ¬s.canTake = true := by
  rcases busy with work | reply
  · simp [State.canTake, work]
  · simp [State.canTake, reply]

theorem State.takeRequest_of_busy {role : RequestRole} {body : State → State × Reply} (busy : ¬s.canTake = true) :
    s.takeRequest role body = s :=
  if_neg busy

/-- No request that a message spells is taken in WORK or REPLY (R185). -/
theorem exec_requestOf_of_busy {m : List Byte} {c : Instr} (busy : ¬s.canTake = true) (settled : s.clearSettled)
    (spelled : requestOf m = some c) : exec c s = .next s := by
  have kept {role : RequestRole} {body : State → State × Reply} : settleClear s (s.takeRequest role body) = s := by
    rw [State.takeRequest_of_busy busy, settleClear_self s settled]
  unfold requestOf at spelled
  split at spelled <;> cases spelled
  case h_3.refl => exact congrArg Host.Outcome.next (if_neg busy)
  case h_4.refl | h_11.refl | h_12.refl | h_13.refl | h_14.refl | h_15.refl | h_16.refl | h_18.refl | h_21.refl =>
    exact congrArg Host.Outcome.next kept
  all_goals exact congrArg Host.Outcome.next (State.takeRequest_of_busy busy)

/-! ## The bytes that a session reads (R182, R185) -/

/-- The `n` bytes of a reply from an offset on, 0 beyond its end. -/
def replyFrom (reply : List Byte) (k n : Nat) : List Byte := (List.range n).map fun i => reply.getD (k + i) 0

theorem replyFrom_succ (reply : List Byte) (k n : Nat) :
    replyFrom reply k (n + 1) = reply.getD k 0 :: replyFrom reply (k + 1) n := by
  simp [replyFrom, List.range_succ_eq_map, Function.comp_def, Nat.add_assoc, Nat.add_comm 1]

/-- Beyond the end of a reply every offset reads alike. -/
theorem replyFrom_min (reply : List Byte) (k n : Nat) : replyFrom reply (min k reply.length) n = replyFrom reply k n := by
  rcases Nat.le_total k reply.length with inside | beyond
  · rw [Nat.min_eq_left inside]
  · rw [Nat.min_eq_right beyond]
    refine List.map_congr_left fun i _ => ?_
    rw [List.getD_eq_default _ _ (Nat.le_add_right _ i), List.getD_eq_default _ _ (Nat.le_add_right_of_le beyond)]

theorem replyFrom_zero (reply : List Byte) (n : Nat) : replyFrom reply 0 n = (reply ++ List.replicate n 0).take n := by
  refine List.ext_getElem (by simp [replyFrom]) fun i hi _ => ?_
  simp only [replyFrom, List.getElem_map, List.getElem_range, Nat.zero_add, List.getElem_take, List.getElem_append,
    List.getElem_replicate]
  split
  next inside => exact List.getD_eq_getElem _ _ inside
  next beyond => exact List.getD_eq_default _ _ (Nat.le_of_not_lt beyond)

/-- The port when `n` more bytes of an offered reply are shifted out. -/
def HostPort.advanced (p : HostPort) (n : Nat) (hdo : Byte) : HostPort :=
  { p with shifted := min (p.shifted + n) p.reply.length, hdo := hdo }

theorem exec_hostByteCompleted_of_offered (b : Byte) (session : s.port.hsel = true) (reply : s.port.state = .reply)
    (offered : s.port.offered = true) :
    exec (.hostByteCompleted b) s = .next (s.setPort (s.port.advanced 1 (s.port.reply.getD s.port.shifted 0))) := by
  rw [exec_hostByteCompleted_of_reply session reply, HostPort.dueByte, if_pos offered, if_pos offered]
  rfl

/-- A session shows an offered reply from the byte that is due, whatever the host sends (R185). -/
theorem clockBytes_of_offered (sent : List Byte) {s : State} (session : s.port.hsel = true) (reply : s.port.state = .reply)
    (offered : s.port.offered = true) (within : s.port.shifted ≤ s.port.reply.length) :
    ∃ hdo, clockBytes sent s =
      some (replyFrom s.port.reply s.port.shifted sent.length, s.setPort (s.port.advanced sent.length hdo)) := by
  induction sent generalizing s with
  | nil =>
    refine ⟨s.port.hdo, ?_⟩
    have same : s.port.advanced 0 s.port.hdo = s.port := by rw [HostPort.advanced, Nat.add_zero, Nat.min_eq_left within]
    rw [List.length_nil, same]
    rfl
  | cons b rest ih =>
    let t := s.setPort (s.port.advanced 1 (s.port.reply.getD s.port.shifted 0))
    obtain ⟨hdo, clocked⟩ := ih (s := t) session reply offered (Nat.min_le_right _ _)
    refine ⟨hdo, ?_⟩
    have bytes : replyFrom t.port.reply t.port.shifted rest.length = replyFrom s.port.reply (s.port.shifted + 1) rest.length :=
      replyFrom_min _ _ _
    have after : t.port.advanced rest.length hdo = s.port.advanced (rest.length + 1) hdo := by
      simp only [t, HostPort.advanced, State.setPort_port, HostPort.mk.injEq, true_and, and_true]
      omega
    rw [bytes, after] at clocked
    rw [clockBytes, exec_hostByteCompleted_of_offered b session reply offered]
    dsimp only
    rw [clocked, List.length_cons, replyFrom_succ]
    rfl

/-! ## The end of a session in REPLY (R185, R191) -/

/-- The port after a session that has read its reply to the end. -/
def HostPort.dropped (p : HostPort) : HostPort :=
  { p with state := .idle, hsel := false, reply := [], offered := false, shifted := 0 }

/-- The port after a session that leaves its reply to be read again. -/
def HostPort.kept (p : HostPort) : HostPort := { p with hsel := false, offered := false, shifted := 0 }

theorem HostPort.readToEnd_iff {p : HostPort} :
    p.readToEnd = true ↔ p.state = .reply ∧ p.offered = true ∧ p.reply.length ≤ p.shifted := by
  simp [HostPort.readToEnd, and_assoc]

theorem exec_hostSessionEnd_of_read (session : s.port.hsel = true) (read : s.port.readToEnd = true)
    (noReset : s.port.resetPending = false) : exec (.hostSessionEnd straps) s = .next (s.setPort s.port.dropped) :=
  congrArg Host.Outcome.next (((if_pos session).trans (if_pos read)).trans (if_neg (by simp [noReset])))

theorem exec_hostSessionEnd_of_reset (session : s.port.hsel = true) (read : s.port.readToEnd = true)
    (reset : s.port.resetPending = true) :
    exec (.hostSessionEnd straps) s = .next ((State.afterReset straps false).setPending s.pending) :=
  congrArg Host.Outcome.next (((if_pos session).trans (if_pos read)).trans (if_pos reset))

theorem exec_hostSessionEnd_of_unread (session : s.port.hsel = true) (reply : s.port.state = .reply)
    (unread : ¬s.port.readToEnd = true) : exec (.hostSessionEnd straps) s = .next (s.setPort s.port.kept) :=
  congrArg Host.Outcome.next (((if_pos session).trans (if_neg unread)).trans (if_neg (by simp [reply])))

/-! ## RESET and REPLY_READY (R191, R184) -/

theorem exec_reset (taken : s.canTake = true) :
    exec .reset s = .next ((s.setPort { s.port with resetPending := true }).reply ⟨1, []⟩) :=
  congrArg Host.Outcome.next (State.takeRequest_both taken)

theorem exec_replyReady_of_built (work : s.port.state = .work) (built : s.port.reply ≠ []) :
    exec .replyReady s = .next (s.setPort { s.port with state := .reply, offered := false, shifted := 0 }) :=
  congrArg Host.Outcome.next (if_pos ⟨work, built⟩)

end Replies

/-- Settles O21: a message's check byte cancels its sum; a busy port takes no request; a session gives the reply byte by byte, by induction
on the bytes sent, and its end drops a reply read to the end. -/
theorem repliesAreHeldAndRead : Obligations.RepliesAreHeldAndRead := by
  refine ⟨fun r _ => ⟨message_sum _, _, rfl⟩, fun s m c busy settled spelled => ?_,
    fun s straps sent reply outside noReset => ?_,
    fun s straps => ⟨exec_reset, exec_replyReady_of_built, fun session reply offered read reset => ?_⟩⟩
  · exact exec_requestOf_of_busy (State.not_canTake_of_busy busy) settled spelled
  · let u := s.setPort { s.port with hsel := true, offered := true, shifted := 0 }
    have begun : exec .hselAsserted s = .next u := by
      rw [exec_hselAsserted_of_outside outside, reply]
      rfl
    obtain ⟨hdo, clocked⟩ := clockBytes_of_offered sent (s := u) rfl reply rfl (Nat.zero_le _)
    have read : (u.port.advanced sent.length hdo).readToEnd = true ↔ s.port.reply.length ≤ sent.length := by
      rw [HostPort.readToEnd_iff]
      simp [u, HostPort.advanced, reply]
    by_cases long : s.port.reply.length ≤ sent.length
    · refine ⟨u, _, _, _, begun, clocked, exec_hostSessionEnd_of_read rfl (read.2 long) noReset,
        replyFrom_zero _ _, rfl, rfl, ?_⟩
      rw [if_pos long]
      exact ⟨rfl, rfl⟩
    · refine ⟨u, _, _, _, begun, clocked, exec_hostSessionEnd_of_unread rfl reply (mt read.1 long),
        replyFrom_zero _ _, rfl, rfl, ?_⟩
      rw [if_neg long]
      exact ⟨reply, rfl⟩
  · exact exec_hostSessionEnd_of_reset session (HostPort.readToEnd_iff.2 ⟨reply, offered, read⟩) reset

end Sys2Proof.Machine
end

section
/-! SUPPORT. Events and resets (R192, R193, R196): an event raised with room and without, the millisecond at every timer, and the values and
invariants of the full reset. -/

namespace Sys2Proof.Machine

section EventsAndReset

variable {s : State} {q : EventQueue} {kind : EventKind} {a b c : Word16} {straps : Station} {hsel : Bool}

/-! ## Events (R192, R193) -/

theorem word16_of_fits {n : Nat} (fits : n ≤ 65535) : word16 n = BitVec.ofNat 16 n := if_pos fits

theorem EventQueue.raise_of_room (room : q.records.length < 32) :
    q.raise kind a b c =
      { q with
        records := q.records ++
          [{ kind := kind, lost := q.lostBefore, sequence := q.sequence, time := q.msCount, arg1 := a, arg2 := b, arg3 := c }]
        lostBefore := false
        sequence := q.sequence + 1 } :=
  if_pos room

theorem EventQueue.raise_of_full (full : 32 ≤ q.records.length) : q.raise kind a b c = { q with lostBefore := true } :=
  if_neg (Nat.not_lt.2 full)

/-! ## The full reset (R196) -/

theorem exec_fullReset (straps : Station) (s : State) : exec (.fullReset straps) s = .next (s.fullReset straps) := rfl

theorem Presence.afterReset_peer (straps n : Station) : (Presence.afterReset straps).peer n = Peer.afterReset := by
  simp [Presence.peer, Presence.afterReset]

theorem Vessel.afterReset_row (g : Station) : Vessel.afterReset.row g = GateRow.afterReset := by
  simp [Vessel.row, Vessel.afterReset]

theorem Converter.afterReset_plate (p : PlateId) : Converter.afterReset.plate p = Plate.afterReset := by
  cases p <;> rfl

/-! ## The invariants at reset -/

theorem State.barrierSafe_afterReset : (State.afterReset straps hsel).barrierSafe :=
  ⟨fun drives => (nomatch drives), fun closing => (nomatch closing), rfl⟩

theorem Barrier.sound_afterReset : Barrier.afterReset.sound := Barrier.restarted_sound .afterReset

theorem Converter.sound_afterReset : Converter.afterReset.sound :=
  ⟨Plate.restarted_sound .afterReset .stopped, Plate.restarted_sound .afterReset .stopped, rfl, rfl⟩

theorem State.partiesFit_afterReset : (State.afterReset straps hsel).partiesFit :=
  ⟨ConfigRecord.default_inRange, Nat.zero_le _, nofun⟩

theorem State.egressSound_afterReset : (State.afterReset straps hsel).egressSound :=
  State.egressSound_iff.2 ⟨fun egress => (nomatch egress), fun _ => rfl⟩

end EventsAndReset

/-- Settles O17: the queue by whether it has room, with arguments that fit their words; the millisecond at each timer is the
definition of its tick. -/
theorem eventsAreTimedAndQueued : Obligations.EventsAreTimedAndQueued := by
  refine ⟨fun s kind a b c ha hb hc => ⟨fun room => ?_, fun full => ?_⟩, fun _ => ?_⟩
  · rw [State.raise, EventQueue.raise_of_room room, word16_of_fits ha, word16_of_fits hb, word16_of_fits hc]
  · rw [State.raise, EventQueue.raise_of_full full]
  · rfl

/-- Settles O3: a full reset is the state of the reset values, with HSEL and the waiting commands kept. -/
theorem fullResetValues : Obligations.FullResetValues := by
  intro straps s
  refine ⟨s.fullReset straps, exec_fullReset straps s, rfl, rfl, rfl, rfl, rfl, rfl, rfl, rfl, rfl, rfl, rfl, rfl, rfl, rfl,
    rfl, rfl, rfl, rfl, rfl, rfl, rfl, rfl, rfl, rfl, Presence.afterReset_peer straps, rfl, rfl, rfl, rfl, rfl, rfl, rfl,
    rfl, rfl, Vessel.afterReset_row, rfl, rfl, rfl, rfl, rfl, rfl, Converter.afterReset_plate, rfl, rfl⟩

/-- Settles O4: block by block, the reset values satisfy what every step keeps. -/
theorem resetHoldsEveryInvariant : Obligations.ResetHoldsEveryInvariant := by
  refine ⟨fun straps hsel => ?_, rfl⟩
  exact ⟨State.barrierSafe_afterReset, Barrier.sound_afterReset, Converter.sound_afterReset,
    State.clearSettled.of_stopped rfl, EventQueue.sound_afterReset, Link.queueSound_empty rfl rfl, .empty _, .inl rfl,
    State.partiesFit_afterReset, State.egressSound_afterReset, State.accountSound_afterReset straps hsel⟩

end Sys2Proof.Machine
end

section
/-! SUPPORT. Steps and the queue of commands (95_what_each_step_holds): a step takes the front command or idles, and every command answers
a state with the same commands waiting, by the kinds of command: a request, a good frame heard, an event that acts on its premise. -/

namespace Sys2Proof.Machine

section Completion

variable {r s t u : State}

/-! ## A step -/

theorem step_of_front {c : Instr} {rest : List Instr} (front : s.pending = c :: rest) :
    step s = exec c (s.setPending rest) := by
  unfold step
  rw [front]

theorem step_of_empty (empty : s.pending = []) : step s = .next s := by
  unfold step
  rw [empty]

/-! ## The relation -/

/-- `t` has the commands of `s` waiting. -/
@[simp] abbrev State.KeepsCommands (s t : State) : Prop := t.pending = s.pending

/-- A command of state `s` completes and leaves the commands that wait. -/
abbrev CompletesFrom (s : State) (o : Host.Outcome State Fault Refusal) : Prop := AnswersWith s.KeepsCommands o

namespace State.KeepsCommands

theorem ite {c : Prop} [Decidable c] (ht : s.KeepsCommands t) (hu : s.KeepsCommands u) :
    s.KeepsCommands (if c then t else u) := by
  split
  · exact ht
  · exact hu

/-- An event that acts on its premise alone. -/
theorem applyIf {c : Prop} [Decidable c] (ht : s.KeepsCommands t) : s.KeepsCommands (if c then t else s) := ite ht rfl

/-- An event that acts unless a condition holds. -/
theorem applyUnless {c : Prop} [Decidable c] (ht : s.KeepsCommands t) : s.KeepsCommands (if c then s else t) := ite rfl ht

theorem settled (ht : s.KeepsCommands t) : s.KeepsCommands (settleClear r t) := by simpa using ht

/-! ## Requests and good frames -/

theorem takeRequest {role : RequestRole} {body : State → State × Reply} (kept : s.KeepsCommands (body s).1) :
    s.KeepsCommands (s.takeRequest role body) :=
  State.takeRequest_keeps (Q := s.KeepsCommands) rfl (fun _ _ h => h) fun _ => kept

theorem takeStart (s : State) : s.KeepsCommands s.takeStart.1 := by
  unfold State.takeStart
  split
  · dsimp only
    split <;> simp
  · rfl

theorem takeEgressEnd (s : State) : s.KeepsCommands s.takeEgressEnd.1 := by
  unfold State.takeEgressEnd
  split <;> [skip; split] <;> simp

theorem takeOpenWindow (s : State) : s.KeepsCommands s.takeOpenWindow.1 := by
  unfold State.takeOpenWindow
  split <;> [skip; split] <;> simp

/-- A good frame is heard, and its owner leaves port, settings and commands. -/
theorem heard {g : Station} {passes : Bool} {deliver : State → State} (kept : ∀ t, KeepsPort t (deliver t)) :
    s.KeepsCommands (s.heard g passes deliver) := by
  obtain ⟨-, -, -, -, same⟩ := State.heard_keepsPort s g passes deliver kept
  exact same

/-- A good frame whose owner belongs to one role. -/
theorem heardByRole {g : Station} {passes : Bool} {role : State → Bool} {deliver : State → State}
    (kept : ∀ t, KeepsPort t (deliver t)) : s.KeepsCommands (s.heard g passes fun t => if role t then deliver t else t) := by
  refine heard fun t => ?_
  split
  · exact kept t
  · simp

end State.KeepsCommands

/-! ## Commands of several cases -/

open State.KeepsCommands

theorem execHostSessionEnd_completes (s : State) (straps : Station) : CompletesFrom s (execHostSessionEnd straps s) :=
  .next (applyIf (ite (ite rfl rfl) (ite rfl rfl)))

theorem execRequestFailsMessageCheck_completes (s : State) (m : List Byte) :
    CompletesFrom s (execRequestFailsMessageCheck m s) := by
  refine .next (applyIf ?_)
  split <;> rfl

theorem execTransmitStart_completes (s : State) (slots : Nat) : CompletesFrom s (execTransmitStart slots s) := by
  refine .next ?_
  split
  · rfl
  · exact applyIf (by simp)

theorem execReadbackFault_completes (s : State) : CompletesFrom s (execReadbackFault s) := by
  refine .next ?_
  split
  · rfl
  · exact applyIf (by simp)

theorem execOwnFrameComplete_completes (s : State) : CompletesFrom s (execOwnFrameComplete s) := by
  refine .next ?_
  split
  · rfl
  · exact applyIf (by simp)

theorem execKeptDemandStart_completes (s : State) : CompletesFrom s (execKeptDemandStart s) := by
  refine .next ?_
  split
  · exact applyIf (by simp)
  · rfl

/-! ## All of them -/

/-- Every command but a byte of the host port. -/
theorem exec_completes_of_ne_byte (c : Instr) (hc : ∀ b, c ≠ .hostByteCompleted b) (s : State) :
    CompletesFrom s (exec c s) := by
  cases c with
  | hostByteCompleted b => exact absurd rfl (hc b)
  | fullReset _ | lineBusy | egressInputInactive | millisecondCountAdvance => exact .next rfl
  | hostSessionEnd straps => exact execHostSessionEnd_completes s straps
  | requestFailsMessageCheck m => exact execRequestFailsMessageCheck_completes s m
  | identify | configure _ | reset | lookup _ | query _ | readEvent | peekEvent | setMask _ | release | closeWindow
  | setOnboard _ => exact .next (takeRequest (by simp))
  | laneRestart | clearFault | present _ _ _ | cancel _ | hold | setLaneMode _ =>
    exact .next (settled (takeRequest (by simp)))
  | start => exact .next (settled (takeRequest (takeStart s)))
  | egressEnd => exact .next (settled (takeRequest (takeEgressEnd s)))
  | openWindow => exact .next (settled (takeRequest (takeOpenWindow s)))
  | statusFrame _ _ _ | ticketFrame _ _ _ | egressFrame _ _ _ | egressEndFrame _ _ _ =>
    exact .next (settled (heard (by simp)))
  | offerFrame _ _ _ | closeFrame _ _ _ | grantFrame _ _ _ => exact .next (settled (heardByRole (by simp)))
  | claimFrame _ _ _ | tallyFrame _ _ _ => exact .next (heardByRole (by simp))
  | unknownKindFrame _ _ _ _ => exact .next (applyIf (heard (by simp)))
  | selftest => exact .next (applyIf (ite rfl rfl))
  | endSwitchInactive _ => exact .next (applyIf (ite (by simp) rfl))
  | transmitStart slots => exact execTransmitStart_completes s slots
  | readbackFault => exact execReadbackFault_completes s
  | ownFrameComplete => exact execOwnFrameComplete_completes s
  | keptDemandStart => exact execKeptDemandStart_completes s
  | lostArbitration => exact .next (settled (by simp))
  | silenceTimerExpiry _ | trackerArm | stall => exact .next (applyIf (settled (ite (by simp) (by simp))))
  | replyReady | selftestEnd _ | openingFlagFound | listSecondTimerExpiry | brakeTimerExpiry => exact .next (applyIf rfl)
  | hselAsserted | lineIdle | badFrame _ | frameAbortHeard => exact .next (applyUnless rfl)
  | listenTimerExpiry | isolationTimerExpiry | rollTimerExpiry | tallyTimerExpiry | orphanTimerExpiry
  | claimRepeatTimerExpiry | claimWaitTimerExpiry | passageWaitExpiry | clearTimerExpiry | loiterTimerExpiry _
  | travelTimerExpiry | pauseTimerExpiry | pendingCloseTaken | reDriveStart => exact .next (applyIf (by simp))
  | endSwitchActive _ | egressInputActive => exact .next (applyUnless (by simp))
  | zeroPhaseEnd _ => exact .phaseEnd _ rfl fun _ => ite rfl (settled (by simp))
  | integratePhaseEnd => exact .phaseEnd _ rfl fun _ => rfl
  | rundownCrossing _ => exact .phaseEnd _ rfl fun _ => applyIf (settled (by simp))
  | rundownOverrange => exact .phaseEnd _ rfl fun _ => settled (by simp)

/-- Every command: a byte is stored at the port, or completes a request, which is another command. -/
theorem exec_completes (c : Instr) (s : State) : CompletesFrom s (exec c s) := by
  cases c with
  | hostByteCompleted b =>
    refine execHostByteCompleted_answersWith (P := s.KeepsCommands) b (fun _ => id) (fun _ _ h => h)
      (fun _ c u hr h => ?_) rfl
    obtain ⟨t, answered, kept⟩ := exec_completes_of_ne_byte c (requestOf_ne_byte hr) u
    exact ⟨t, answered, kept.trans h⟩
  | _ => exact exec_completes_of_ne_byte _ (by simp) s

end Completion

/-- Settles O1: the step's own equation at a queue with a front. -/
theorem stepTakesFrontCommand : Obligations.StepTakesFrontCommand := fun _ _ _ => step_of_front

/-- Settles O2: command by command no operation of a block reaches the queue of commands, and none ends otherwise than in a state. -/
theorem everyCommandCompletes : Obligations.EveryCommandCompletes := ⟨exec_completes, fun _ => step_of_empty⟩

end Sys2Proof.Machine
end
